-- ==== Sys2Proof/Word.lean ====
section
/-! DEFINITION. The words of the machine (00_scope R7) and the names of its operands
(30_encoding R155). -/

namespace Sys2Proof

/-- The unit of memory and the width of a register (00_scope R7). -/
abbrev Byte := BitVec 8

/-- A 16-bit value: an address, a register pair, `SP`, `PC` (00_scope R7). -/
abbrev Word := BitVec 16

/-- The registers that table `r` names (30_encoding R155). `F` has no code. -/
inductive Reg8 where
  | b | c | d | e | h | l | a
deriving DecidableEq, Repr

/-- An entry of table `r`: a register, or (code 6) the memory byte at `x[HL]`. -/
inductive Loc where
  | reg (r : Reg8)
  | atHl
deriving DecidableEq, Repr

/-- Table `rr`: the 16-bit registers of loads, additions, increments and decrements. -/
inductive Reg16 where
  | bc | de | hl | sp
deriving DecidableEq, Repr

/-- Table `qq`: the pairs of `PUSH` and `POP`. -/
inductive StackReg where
  | bc | de | hl | af
deriving DecidableEq, Repr

/-- Table `cc`: the four conditions (45_control_flow R310). -/
inductive Cond where
  | nz | z | nc | c
deriving DecidableEq, Repr

/-- Table `alu`: the eight accumulator operations (42_alu8 R230). -/
inductive AluOp where
  | add | adc | sub | sbc | and | xor | or | cp
deriving DecidableEq, Repr

/-- Table `rot`: the eight generic rotates and shifts (44_rotate_shift_bit R285 to R292). -/
inductive RotOp where
  | rlc | rrc | rl | rr | sla | sra | swap | srl
deriving DecidableEq, Repr

/-- The eleven primary bytes that select no instruction (30_encoding R160). -/
inductive BadByte where
  | xD3 | xDB | xDD | xE3 | xE4 | xEB | xEC | xED | xF4 | xFC | xFD
deriving DecidableEq, Repr

end Sys2Proof
end

