-- ==== Sys2Proof/Machine/Bits.lean ====
section
/-! DEFINITION. Bit fields, byte order inside a word, extensions (00_scope R9, R10). -/

namespace Sys2Proof.Machine

/-- `v[15:8]`. -/
def hiByte (v : Word) : Byte := v.extractLsb' 8 8

/-- `v[7:0]`. -/
def loByte (v : Word) : Byte := v.extractLsb' 0 8

/-- The concatenation of two bytes, `hi` in the high bits (00_scope R9). -/
def join (hi lo : Byte) : Word := hi ++ lo

/-- `sext_16(v)` (00_scope R10). -/
def sext16 (v : Byte) : Word := v.signExtend 16

/-- `zext_16(v)` (00_scope R10). -/
def zext16 (v : Byte) : Word := v.setWidth 16

end Sys2Proof.Machine
end

