-- ==== Sys2Proof/Syntax.lean ====
section
/-! DEFINITION. The instructions: one constructor per row of spec/opcode_table.json (30_encoding
R170). First the rows that carry an immediate, in the table's order: `n` (R150), `e` (R151, the raw
byte), `nn` (R152), of `STOP` the second byte, which is ignored (R163); then the others. -/

namespace Sys2Proof

/-- An instruction of the opcode table. -/
inductive Instr where
  | ldBcNn (nn : Word) | ldBN (n : Byte) | ldAtNnSp (nn : Word) | ldCN (n : Byte)
  | stop (n : Byte) | ldDeNn (nn : Word) | ldDN (n : Byte) | jrE (e : Byte) | ldEN (n : Byte)
  | jrNzE (e : Byte) | ldHlNn (nn : Word) | ldHN (n : Byte) | jrZE (e : Byte) | ldLN (n : Byte)
  | jrNcE (e : Byte) | ldSpNn (nn : Word) | ldAtHlN (n : Byte) | jrCE (e : Byte)
  | ldAN (n : Byte) | jpNzNn (nn : Word) | jpNn (nn : Word) | callNzNn (nn : Word)
  | addAN (n : Byte) | jpZNn (nn : Word) | callZNn (nn : Word) | callNn (nn : Word)
  | adcAN (n : Byte) | jpNcNn (nn : Word) | callNcNn (nn : Word) | subN (n : Byte)
  | jpCNn (nn : Word) | callCNn (nn : Word) | sbcAN (n : Byte) | ldhAtNA (n : Byte)
  | andN (n : Byte) | addSpE (e : Byte) | ldAtNnA (nn : Word) | xorN (n : Byte)
  | ldhAAtN (n : Byte) | orN (n : Byte) | ldHlSpE (e : Byte) | ldAAtNn (nn : Word)
  | cpN (n : Byte) | nop | ldAtBcA | incBc | incB | decB | rlca | addHlBc | ldAAtBc | decBc
  | incC | decC | rrca | ldAtDeA | incDe | incD | decD | rla | addHlDe | ldAAtDe | decDe | incE
  | decE | rra | ldAtHlIncA | incHl | incH | decH | daa | addHlHl | ldAAtHlInc | decHl | incL
  | decL | cpl | ldAtHlDecA | incSp | incAtHl | decAtHl | scf | addHlSp | ldAAtHlDec | decSp
  | incA | decA | ccf | ldBB | ldBC | ldBD | ldBE | ldBH | ldBL | ldBAtHl | ldBA | ldCB | ldCC
  | ldCD | ldCE | ldCH | ldCL | ldCAtHl | ldCA | ldDB | ldDC | ldDD | ldDE | ldDH | ldDL
  | ldDAtHl | ldDA | ldEB | ldEC | ldED | ldEE | ldEH | ldEL | ldEAtHl | ldEA | ldHB | ldHC
  | ldHD | ldHE | ldHH | ldHL | ldHAtHl | ldHA | ldLB | ldLC | ldLD | ldLE | ldLH | ldLL
  | ldLAtHl | ldLA | ldAtHlB | ldAtHlC | ldAtHlD | ldAtHlE | ldAtHlH | ldAtHlL | halt | ldAtHlA
  | ldAB | ldAC | ldAD | ldAE | ldAH | ldAL | ldAAtHl | ldAA | addAB | addAC | addAD | addAE
  | addAH | addAL | addAAtHl | addAA | adcAB | adcAC | adcAD | adcAE | adcAH | adcAL | adcAAtHl
  | adcAA | subB | subC | subD | subE | subH | subL | subAtHl | subA | sbcAB | sbcAC | sbcAD
  | sbcAE | sbcAH | sbcAL | sbcAAtHl | sbcAA | andB | andC | andD | andE | andH | andL | andAtHl
  | andA | xorB | xorC | xorD | xorE | xorH | xorL | xorAtHl | xorA | orB | orC | orD | orE | orH
  | orL | orAtHl | orA | cpB | cpC | cpD | cpE | cpH | cpL | cpAtHl | cpA | retNz | popBc
  | pushBc | rst00 | retZ | ret | rst08 | retNc | popDe | invalidD3 | pushDe | rst10 | retC
  | reti | invalidDB | invalidDD | rst18 | popHl | ldhAtCA | invalidE3 | invalidE4 | pushHl
  | rst20 | jpHl | invalidEB | invalidEC | invalidED | rst28 | popAf | ldhAAtC | di | invalidF4
  | pushAf | rst30 | ldSpHl | ei | invalidFC | invalidFD | rst38 | rlcB | rlcC | rlcD | rlcE
  | rlcH | rlcL | rlcAtHl | rlcA | rrcB | rrcC | rrcD | rrcE | rrcH | rrcL | rrcAtHl | rrcA | rlB
  | rlC | rlD | rlE | rlH | rlL | rlAtHl | rlA | rrB | rrC | rrD | rrE | rrH | rrL | rrAtHl | rrA
  | slaB | slaC | slaD | slaE | slaH | slaL | slaAtHl | slaA | sraB | sraC | sraD | sraE | sraH
  | sraL | sraAtHl | sraA | swapB | swapC | swapD | swapE | swapH | swapL | swapAtHl | swapA
  | srlB | srlC | srlD | srlE | srlH | srlL | srlAtHl | srlA | bit0B | bit0C | bit0D | bit0E
  | bit0H | bit0L | bit0AtHl | bit0A | bit1B | bit1C | bit1D | bit1E | bit1H | bit1L | bit1AtHl
  | bit1A | bit2B | bit2C | bit2D | bit2E | bit2H | bit2L | bit2AtHl | bit2A | bit3B | bit3C
  | bit3D | bit3E | bit3H | bit3L | bit3AtHl | bit3A | bit4B | bit4C | bit4D | bit4E | bit4H
  | bit4L | bit4AtHl | bit4A | bit5B | bit5C | bit5D | bit5E | bit5H | bit5L | bit5AtHl | bit5A
  | bit6B | bit6C | bit6D | bit6E | bit6H | bit6L | bit6AtHl | bit6A | bit7B | bit7C | bit7D
  | bit7E | bit7H | bit7L | bit7AtHl | bit7A | res0B | res0C | res0D | res0E | res0H | res0L
  | res0AtHl | res0A | res1B | res1C | res1D | res1E | res1H | res1L | res1AtHl | res1A | res2B
  | res2C | res2D | res2E | res2H | res2L | res2AtHl | res2A | res3B | res3C | res3D | res3E
  | res3H | res3L | res3AtHl | res3A | res4B | res4C | res4D | res4E | res4H | res4L | res4AtHl
  | res4A | res5B | res5C | res5D | res5E | res5H | res5L | res5AtHl | res5A | res6B | res6C
  | res6D | res6E | res6H | res6L | res6AtHl | res6A | res7B | res7C | res7D | res7E | res7H
  | res7L | res7AtHl | res7A | set0B | set0C | set0D | set0E | set0H | set0L | set0AtHl | set0A
  | set1B | set1C | set1D | set1E | set1H | set1L | set1AtHl | set1A | set2B | set2C | set2D
  | set2E | set2H | set2L | set2AtHl | set2A | set3B | set3C | set3D | set3E | set3H | set3L
  | set3AtHl | set3A | set4B | set4C | set4D | set4E | set4H | set4L | set4AtHl | set4A | set5B
  | set5C | set5D | set5E | set5H | set5L | set5AtHl | set5A | set6B | set6C | set6D | set6E
  | set6H | set6L | set6AtHl | set6A | set7B | set7C | set7D | set7E | set7H | set7L | set7AtHl
  | set7A
deriving DecidableEq, Repr

end Sys2Proof
end

