-- ==== Sys2Proof/WellFormed.lean ====
section
/-! DEFINITION. Which instructions a program may contain. -/

namespace Sys2Proof

/-- One of the eleven invalid bytes, which "select no instruction" (30_encoding R160). -/
def Instr.isInvalid : Instr → Bool
  | .invalidD3 | .invalidDB | .invalidDD | .invalidE3 | .invalidE4 | .invalidEB | .invalidEC
  | .invalidED | .invalidF4 | .invalidFC | .invalidFD => true
  | _ => false

/-- A well-formed instruction: not one of the invalid variants. The operand types admit no value
that an encoding lacks, so nothing else is to be checked (30_encoding R153, R161; log 16). -/
def Instr.wellFormed (i : Instr) : Bool := !i.isInvalid

end Sys2Proof
end

