-- ==== Sys2Proof/Decode.lean ====
section
/-! DEFINITION. The decoder (30_encoding R140 to R163), the encoder and the static properties of the
opcode table (R143, R170). -/

namespace Sys2Proof

open Sys2Proof.Machine (hiByte loByte join)

/-! ### The families of the table: an instruction from its operands -/

/-- `LD r,r'` (40_load8 R181). -/
def Instr.ldReg (r r' : Reg8) : Instr :=
  match r, r' with
  | .b, .b => .ldBB | .b, .c => .ldBC | .b, .d => .ldBD | .b, .e => .ldBE | .b, .h => .ldBH
  | .b, .l => .ldBL | .b, .a => .ldBA | .c, .b => .ldCB | .c, .c => .ldCC | .c, .d => .ldCD
  | .c, .e => .ldCE | .c, .h => .ldCH | .c, .l => .ldCL | .c, .a => .ldCA | .d, .b => .ldDB
  | .d, .c => .ldDC | .d, .d => .ldDD | .d, .e => .ldDE | .d, .h => .ldDH | .d, .l => .ldDL
  | .d, .a => .ldDA | .e, .b => .ldEB | .e, .c => .ldEC | .e, .d => .ldED | .e, .e => .ldEE
  | .e, .h => .ldEH | .e, .l => .ldEL | .e, .a => .ldEA | .h, .b => .ldHB | .h, .c => .ldHC
  | .h, .d => .ldHD | .h, .e => .ldHE | .h, .h => .ldHH | .h, .l => .ldHL | .h, .a => .ldHA
  | .l, .b => .ldLB | .l, .c => .ldLC | .l, .d => .ldLD | .l, .e => .ldLE | .l, .h => .ldLH
  | .l, .l => .ldLL | .l, .a => .ldLA | .a, .b => .ldAB | .a, .c => .ldAC | .a, .d => .ldAD
  | .a, .e => .ldAE | .a, .h => .ldAH | .a, .l => .ldAL | .a, .a => .ldAA

/-- `LD r,n` (40_load8 R182). -/
def Instr.ldImm (r : Reg8) (n : Byte) : Instr :=
  match r with
  | .b => .ldBN n | .c => .ldCN n | .d => .ldDN n | .e => .ldEN n | .h => .ldHN n | .l => .ldLN n
  | .a => .ldAN n

/-- `LD r,(HL)` (40_load8 R183). -/
def Instr.ldFromHl (r : Reg8) : Instr :=
  match r with
  | .b => .ldBAtHl | .c => .ldCAtHl | .d => .ldDAtHl | .e => .ldEAtHl | .h => .ldHAtHl
  | .l => .ldLAtHl | .a => .ldAAtHl

/-- `LD (HL),r` (40_load8 R184). -/
def Instr.ldToHl (r : Reg8) : Instr :=
  match r with
  | .b => .ldAtHlB | .c => .ldAtHlC | .d => .ldAtHlD | .e => .ldAtHlE | .h => .ldAtHlH
  | .l => .ldAtHlL | .a => .ldAtHlA

/-- `LD rr,nn` (41_load16 R211). -/
def Instr.ldPair (rr : Reg16) (nn : Word) : Instr :=
  match rr with
  | .bc => .ldBcNn nn | .de => .ldDeNn nn | .hl => .ldHlNn nn | .sp => .ldSpNn nn

/-- `PUSH qq` (41_load16 R215). -/
def Instr.push (qq : StackReg) : Instr :=
  match qq with
  | .bc => .pushBc | .de => .pushDe | .hl => .pushHl | .af => .pushAf

/-- `POP qq` (41_load16 R216). -/
def Instr.pop (qq : StackReg) : Instr :=
  match qq with
  | .bc => .popBc | .de => .popDe | .hl => .popHl | .af => .popAf

/-- The accumulator operations on a register or `(HL)` (42_alu8 R230). -/
def Instr.alu (op : AluOp) (x : Loc) : Instr :=
  match op, x with
  | .add, .reg .b => .addAB | .add, .reg .c => .addAC | .add, .reg .d => .addAD
  | .add, .reg .e => .addAE | .add, .reg .h => .addAH | .add, .reg .l => .addAL
  | .add, .atHl => .addAAtHl | .add, .reg .a => .addAA | .adc, .reg .b => .adcAB
  | .adc, .reg .c => .adcAC | .adc, .reg .d => .adcAD | .adc, .reg .e => .adcAE
  | .adc, .reg .h => .adcAH | .adc, .reg .l => .adcAL | .adc, .atHl => .adcAAtHl
  | .adc, .reg .a => .adcAA | .sub, .reg .b => .subB | .sub, .reg .c => .subC
  | .sub, .reg .d => .subD | .sub, .reg .e => .subE | .sub, .reg .h => .subH
  | .sub, .reg .l => .subL | .sub, .atHl => .subAtHl | .sub, .reg .a => .subA
  | .sbc, .reg .b => .sbcAB | .sbc, .reg .c => .sbcAC | .sbc, .reg .d => .sbcAD
  | .sbc, .reg .e => .sbcAE | .sbc, .reg .h => .sbcAH | .sbc, .reg .l => .sbcAL
  | .sbc, .atHl => .sbcAAtHl | .sbc, .reg .a => .sbcAA | .and, .reg .b => .andB
  | .and, .reg .c => .andC | .and, .reg .d => .andD | .and, .reg .e => .andE
  | .and, .reg .h => .andH | .and, .reg .l => .andL | .and, .atHl => .andAtHl
  | .and, .reg .a => .andA | .xor, .reg .b => .xorB | .xor, .reg .c => .xorC
  | .xor, .reg .d => .xorD | .xor, .reg .e => .xorE | .xor, .reg .h => .xorH
  | .xor, .reg .l => .xorL | .xor, .atHl => .xorAtHl | .xor, .reg .a => .xorA
  | .or, .reg .b => .orB | .or, .reg .c => .orC | .or, .reg .d => .orD | .or, .reg .e => .orE
  | .or, .reg .h => .orH | .or, .reg .l => .orL | .or, .atHl => .orAtHl | .or, .reg .a => .orA
  | .cp, .reg .b => .cpB | .cp, .reg .c => .cpC | .cp, .reg .d => .cpD | .cp, .reg .e => .cpE
  | .cp, .reg .h => .cpH | .cp, .reg .l => .cpL | .cp, .atHl => .cpAtHl | .cp, .reg .a => .cpA

/-- The accumulator operations on an immediate (42_alu8 R230). -/
def Instr.aluImm (op : AluOp) (n : Byte) : Instr :=
  match op with
  | .add => .addAN n | .adc => .adcAN n | .sub => .subN n | .sbc => .sbcAN n | .and => .andN n
  | .xor => .xorN n | .or => .orN n | .cp => .cpN n

/-- `INC r` (42_alu8 R239). -/
def Instr.incReg (r : Reg8) : Instr :=
  match r with
  | .b => .incB | .c => .incC | .d => .incD | .e => .incE | .h => .incH | .l => .incL
  | .a => .incA

/-- `DEC r` (42_alu8 R241). -/
def Instr.decReg (r : Reg8) : Instr :=
  match r with
  | .b => .decB | .c => .decC | .d => .decD | .e => .decE | .h => .decH | .l => .decL
  | .a => .decA

/-- `ADD HL,rr` (43_alu16 R271). -/
def Instr.addHl (rr : Reg16) : Instr :=
  match rr with
  | .bc => .addHlBc | .de => .addHlDe | .hl => .addHlHl | .sp => .addHlSp

/-- `INC rr` (43_alu16 R272). -/
def Instr.incPair (rr : Reg16) : Instr :=
  match rr with
  | .bc => .incBc | .de => .incDe | .hl => .incHl | .sp => .incSp

/-- `DEC rr` (43_alu16 R273). -/
def Instr.decPair (rr : Reg16) : Instr :=
  match rr with
  | .bc => .decBc | .de => .decDe | .hl => .decHl | .sp => .decSp

/-- The generic rotates and shifts (44_rotate_shift_bit R285 to R292). -/
def Instr.rot (op : RotOp) (x : Loc) : Instr :=
  match op, x with
  | .rlc, .reg .b => .rlcB | .rlc, .reg .c => .rlcC | .rlc, .reg .d => .rlcD
  | .rlc, .reg .e => .rlcE | .rlc, .reg .h => .rlcH | .rlc, .reg .l => .rlcL
  | .rlc, .atHl => .rlcAtHl | .rlc, .reg .a => .rlcA | .rrc, .reg .b => .rrcB
  | .rrc, .reg .c => .rrcC | .rrc, .reg .d => .rrcD | .rrc, .reg .e => .rrcE
  | .rrc, .reg .h => .rrcH | .rrc, .reg .l => .rrcL | .rrc, .atHl => .rrcAtHl
  | .rrc, .reg .a => .rrcA | .rl, .reg .b => .rlB | .rl, .reg .c => .rlC | .rl, .reg .d => .rlD
  | .rl, .reg .e => .rlE | .rl, .reg .h => .rlH | .rl, .reg .l => .rlL | .rl, .atHl => .rlAtHl
  | .rl, .reg .a => .rlA | .rr, .reg .b => .rrB | .rr, .reg .c => .rrC | .rr, .reg .d => .rrD
  | .rr, .reg .e => .rrE | .rr, .reg .h => .rrH | .rr, .reg .l => .rrL | .rr, .atHl => .rrAtHl
  | .rr, .reg .a => .rrA | .sla, .reg .b => .slaB | .sla, .reg .c => .slaC
  | .sla, .reg .d => .slaD | .sla, .reg .e => .slaE | .sla, .reg .h => .slaH
  | .sla, .reg .l => .slaL | .sla, .atHl => .slaAtHl | .sla, .reg .a => .slaA
  | .sra, .reg .b => .sraB | .sra, .reg .c => .sraC | .sra, .reg .d => .sraD
  | .sra, .reg .e => .sraE | .sra, .reg .h => .sraH | .sra, .reg .l => .sraL
  | .sra, .atHl => .sraAtHl | .sra, .reg .a => .sraA | .swap, .reg .b => .swapB
  | .swap, .reg .c => .swapC | .swap, .reg .d => .swapD | .swap, .reg .e => .swapE
  | .swap, .reg .h => .swapH | .swap, .reg .l => .swapL | .swap, .atHl => .swapAtHl
  | .swap, .reg .a => .swapA | .srl, .reg .b => .srlB | .srl, .reg .c => .srlC
  | .srl, .reg .d => .srlD | .srl, .reg .e => .srlE | .srl, .reg .h => .srlH
  | .srl, .reg .l => .srlL | .srl, .atHl => .srlAtHl | .srl, .reg .a => .srlA

/-- `BIT b,t` (44_rotate_shift_bit R293). -/
def Instr.bit (b : Fin 8) (x : Loc) : Instr :=
  match b, x with
  | 0, .reg .b => .bit0B | 0, .reg .c => .bit0C | 0, .reg .d => .bit0D | 0, .reg .e => .bit0E
  | 0, .reg .h => .bit0H | 0, .reg .l => .bit0L | 0, .atHl => .bit0AtHl | 0, .reg .a => .bit0A
  | 1, .reg .b => .bit1B | 1, .reg .c => .bit1C | 1, .reg .d => .bit1D | 1, .reg .e => .bit1E
  | 1, .reg .h => .bit1H | 1, .reg .l => .bit1L | 1, .atHl => .bit1AtHl | 1, .reg .a => .bit1A
  | 2, .reg .b => .bit2B | 2, .reg .c => .bit2C | 2, .reg .d => .bit2D | 2, .reg .e => .bit2E
  | 2, .reg .h => .bit2H | 2, .reg .l => .bit2L | 2, .atHl => .bit2AtHl | 2, .reg .a => .bit2A
  | 3, .reg .b => .bit3B | 3, .reg .c => .bit3C | 3, .reg .d => .bit3D | 3, .reg .e => .bit3E
  | 3, .reg .h => .bit3H | 3, .reg .l => .bit3L | 3, .atHl => .bit3AtHl | 3, .reg .a => .bit3A
  | 4, .reg .b => .bit4B | 4, .reg .c => .bit4C | 4, .reg .d => .bit4D | 4, .reg .e => .bit4E
  | 4, .reg .h => .bit4H | 4, .reg .l => .bit4L | 4, .atHl => .bit4AtHl | 4, .reg .a => .bit4A
  | 5, .reg .b => .bit5B | 5, .reg .c => .bit5C | 5, .reg .d => .bit5D | 5, .reg .e => .bit5E
  | 5, .reg .h => .bit5H | 5, .reg .l => .bit5L | 5, .atHl => .bit5AtHl | 5, .reg .a => .bit5A
  | 6, .reg .b => .bit6B | 6, .reg .c => .bit6C | 6, .reg .d => .bit6D | 6, .reg .e => .bit6E
  | 6, .reg .h => .bit6H | 6, .reg .l => .bit6L | 6, .atHl => .bit6AtHl | 6, .reg .a => .bit6A
  | 7, .reg .b => .bit7B | 7, .reg .c => .bit7C | 7, .reg .d => .bit7D | 7, .reg .e => .bit7E
  | 7, .reg .h => .bit7H | 7, .reg .l => .bit7L | 7, .atHl => .bit7AtHl | 7, .reg .a => .bit7A

/-- `RES b,t` (44_rotate_shift_bit R294). -/
def Instr.res (b : Fin 8) (x : Loc) : Instr :=
  match b, x with
  | 0, .reg .b => .res0B | 0, .reg .c => .res0C | 0, .reg .d => .res0D | 0, .reg .e => .res0E
  | 0, .reg .h => .res0H | 0, .reg .l => .res0L | 0, .atHl => .res0AtHl | 0, .reg .a => .res0A
  | 1, .reg .b => .res1B | 1, .reg .c => .res1C | 1, .reg .d => .res1D | 1, .reg .e => .res1E
  | 1, .reg .h => .res1H | 1, .reg .l => .res1L | 1, .atHl => .res1AtHl | 1, .reg .a => .res1A
  | 2, .reg .b => .res2B | 2, .reg .c => .res2C | 2, .reg .d => .res2D | 2, .reg .e => .res2E
  | 2, .reg .h => .res2H | 2, .reg .l => .res2L | 2, .atHl => .res2AtHl | 2, .reg .a => .res2A
  | 3, .reg .b => .res3B | 3, .reg .c => .res3C | 3, .reg .d => .res3D | 3, .reg .e => .res3E
  | 3, .reg .h => .res3H | 3, .reg .l => .res3L | 3, .atHl => .res3AtHl | 3, .reg .a => .res3A
  | 4, .reg .b => .res4B | 4, .reg .c => .res4C | 4, .reg .d => .res4D | 4, .reg .e => .res4E
  | 4, .reg .h => .res4H | 4, .reg .l => .res4L | 4, .atHl => .res4AtHl | 4, .reg .a => .res4A
  | 5, .reg .b => .res5B | 5, .reg .c => .res5C | 5, .reg .d => .res5D | 5, .reg .e => .res5E
  | 5, .reg .h => .res5H | 5, .reg .l => .res5L | 5, .atHl => .res5AtHl | 5, .reg .a => .res5A
  | 6, .reg .b => .res6B | 6, .reg .c => .res6C | 6, .reg .d => .res6D | 6, .reg .e => .res6E
  | 6, .reg .h => .res6H | 6, .reg .l => .res6L | 6, .atHl => .res6AtHl | 6, .reg .a => .res6A
  | 7, .reg .b => .res7B | 7, .reg .c => .res7C | 7, .reg .d => .res7D | 7, .reg .e => .res7E
  | 7, .reg .h => .res7H | 7, .reg .l => .res7L | 7, .atHl => .res7AtHl | 7, .reg .a => .res7A

/-- `SET b,t` (44_rotate_shift_bit R295). -/
def Instr.setBit (b : Fin 8) (x : Loc) : Instr :=
  match b, x with
  | 0, .reg .b => .set0B | 0, .reg .c => .set0C | 0, .reg .d => .set0D | 0, .reg .e => .set0E
  | 0, .reg .h => .set0H | 0, .reg .l => .set0L | 0, .atHl => .set0AtHl | 0, .reg .a => .set0A
  | 1, .reg .b => .set1B | 1, .reg .c => .set1C | 1, .reg .d => .set1D | 1, .reg .e => .set1E
  | 1, .reg .h => .set1H | 1, .reg .l => .set1L | 1, .atHl => .set1AtHl | 1, .reg .a => .set1A
  | 2, .reg .b => .set2B | 2, .reg .c => .set2C | 2, .reg .d => .set2D | 2, .reg .e => .set2E
  | 2, .reg .h => .set2H | 2, .reg .l => .set2L | 2, .atHl => .set2AtHl | 2, .reg .a => .set2A
  | 3, .reg .b => .set3B | 3, .reg .c => .set3C | 3, .reg .d => .set3D | 3, .reg .e => .set3E
  | 3, .reg .h => .set3H | 3, .reg .l => .set3L | 3, .atHl => .set3AtHl | 3, .reg .a => .set3A
  | 4, .reg .b => .set4B | 4, .reg .c => .set4C | 4, .reg .d => .set4D | 4, .reg .e => .set4E
  | 4, .reg .h => .set4H | 4, .reg .l => .set4L | 4, .atHl => .set4AtHl | 4, .reg .a => .set4A
  | 5, .reg .b => .set5B | 5, .reg .c => .set5C | 5, .reg .d => .set5D | 5, .reg .e => .set5E
  | 5, .reg .h => .set5H | 5, .reg .l => .set5L | 5, .atHl => .set5AtHl | 5, .reg .a => .set5A
  | 6, .reg .b => .set6B | 6, .reg .c => .set6C | 6, .reg .d => .set6D | 6, .reg .e => .set6E
  | 6, .reg .h => .set6H | 6, .reg .l => .set6L | 6, .atHl => .set6AtHl | 6, .reg .a => .set6A
  | 7, .reg .b => .set7B | 7, .reg .c => .set7C | 7, .reg .d => .set7D | 7, .reg .e => .set7E
  | 7, .reg .h => .set7H | 7, .reg .l => .set7L | 7, .atHl => .set7AtHl | 7, .reg .a => .set7A

/-- `JP cc,nn` (45_control_flow R312). -/
def Instr.jpCc (cc : Cond) (nn : Word) : Instr :=
  match cc with
  | .nz => .jpNzNn nn | .z => .jpZNn nn | .nc => .jpNcNn nn | .c => .jpCNn nn

/-- `JR cc,e` (45_control_flow R315). -/
def Instr.jrCc (cc : Cond) (e : Byte) : Instr :=
  match cc with
  | .nz => .jrNzE e | .z => .jrZE e | .nc => .jrNcE e | .c => .jrCE e

/-- `CALL cc,nn` (45_control_flow R317). -/
def Instr.callCc (cc : Cond) (nn : Word) : Instr :=
  match cc with
  | .nz => .callNzNn nn | .z => .callZNn nn | .nc => .callNcNn nn | .c => .callCNn nn

/-- `RET cc` (45_control_flow R319). -/
def Instr.retCc (cc : Cond) : Instr :=
  match cc with
  | .nz => .retNz | .z => .retZ | .nc => .retNc | .c => .retC

/-- `RST t`, `t = y * 8` (45_control_flow R321). -/
def Instr.rst (y : Fin 8) : Instr :=
  match y with
  | 0 => .rst00 | 1 => .rst08 | 2 => .rst10 | 3 => .rst18 | 4 => .rst20 | 5 => .rst28
  | 6 => .rst30 | 7 => .rst38

/-- The invalid bytes (46_cpu_control R336). -/
def Instr.invalid (x : BadByte) : Instr :=
  match x with
  | .xD3 => .invalidD3 | .xDB => .invalidDB | .xDD => .invalidDD | .xE3 => .invalidE3
  | .xE4 => .invalidE4 | .xEB => .invalidEB | .xEC => .invalidEC | .xED => .invalidED
  | .xF4 => .invalidF4 | .xFC => .invalidFC | .xFD => .invalidFD

/-- The primary byte of an invalid variant (30_encoding R160). -/
def BadByte.code (x : BadByte) : Byte :=
  match x with
  | .xD3 => 0xD3#8
  | .xDB => 0xDB#8
  | .xDD => 0xDD#8
  | .xE3 => 0xE3#8
  | .xE4 => 0xE4#8
  | .xEB => 0xEB#8
  | .xEC => 0xEC#8
  | .xED => 0xED#8
  | .xF4 => 0xF4#8
  | .xFC => 0xFC#8
  | .xFD => 0xFD#8

/-! ### Field value tables (30_encoding R155), for codes below 8 or 4 -/

/-- Table `r`. -/
def tableR : Nat → Loc
  | 0 => .reg .b
  | 1 => .reg .c
  | 2 => .reg .d
  | 3 => .reg .e
  | 4 => .reg .h
  | 5 => .reg .l
  | 6 => .atHl
  | _ => .reg .a

/-- Table `rr`. -/
def tableRr : Nat → Reg16
  | 0 => .bc
  | 1 => .de
  | 2 => .hl
  | _ => .sp

/-- Table `qq`. -/
def tableQq : Nat → StackReg
  | 0 => .bc
  | 1 => .de
  | 2 => .hl
  | _ => .af

/-- Table `cc`. -/
def tableCc : Nat → Cond
  | 0 => .nz
  | 1 => .z
  | 2 => .nc
  | _ => .c

/-- Table `alu`. -/
def tableAlu : Nat → AluOp
  | 0 => .add
  | 1 => .adc
  | 2 => .sub
  | 3 => .sbc
  | 4 => .and
  | 5 => .xor
  | 6 => .or
  | _ => .cp

/-- Table `rot`. -/
def tableRot : Nat → RotOp
  | 0 => .rlc
  | 1 => .rrc
  | 2 => .rl
  | 3 => .rr
  | 4 => .sla
  | 5 => .sra
  | 6 => .swap
  | _ => .srl

/-! ### The decoder -/

/-- Field `x` of an opcode byte (30_encoding R148). -/
def fieldX (op : Byte) : Nat := op.toNat / 64
/-- Field `y` (30_encoding R148). -/
def fieldY (op : Byte) : Nat := op.toNat / 8 % 8
/-- Field `z` (30_encoding R148). -/
def fieldZ (op : Byte) : Nat := op.toNat % 8

/-- The second table, keyed by the byte after `0xCB` (30_encoding R158). -/
def decodeCb (b1 : Byte) : Instr :=
  match fieldX b1 with
  | 0 => .rot (tableRot (fieldY b1)) (tableR (fieldZ b1))
  | 1 => .bit (Fin.ofNat 8 (fieldY b1)) (tableR (fieldZ b1))
  | 2 => .res (Fin.ofNat 8 (fieldY b1)) (tableR (fieldZ b1))
  | _ => .setBit (Fin.ofNat 8 (fieldY b1)) (tableR (fieldZ b1))

/-- The patterns `00 yyy zzz` (30_encoding R157). -/
def decodeX0 (y z : Nat) (n : Byte) (nn : Word) : Instr :=
  match z with
  | 0 =>
    match y with
    | 0 => .nop
    | 1 => .ldAtNnSp nn
    | 2 => .stop n
    | 3 => .jrE n
    | _ => .jrCc (tableCc (y - 4)) n
  | 1 => if y % 2 = 0 then .ldPair (tableRr (y / 2)) nn else .addHl (tableRr (y / 2))
  | 2 =>
    match y with
    | 0 => .ldAtBcA
    | 1 => .ldAAtBc
    | 2 => .ldAtDeA
    | 3 => .ldAAtDe
    | 4 => .ldAtHlIncA
    | 5 => .ldAAtHlInc
    | 6 => .ldAtHlDecA
    | _ => .ldAAtHlDec
  | 3 => if y % 2 = 0 then .incPair (tableRr (y / 2)) else .decPair (tableRr (y / 2))
  | 4 =>
    match tableR y with
    | .reg r => .incReg r
    | .atHl => .incAtHl
  | 5 =>
    match tableR y with
    | .reg r => .decReg r
    | .atHl => .decAtHl
  | 6 =>
    match tableR y with
    | .reg r => .ldImm r n
    | .atHl => .ldAtHlN n
  | _ =>
    match y with
    | 0 => .rlca
    | 1 => .rrca
    | 2 => .rla
    | 3 => .rra
    | 4 => .daa
    | 5 => .cpl
    | 6 => .scf
    | _ => .ccf

/-- The patterns `01 yyy zzz` (30_encoding R157): `HALT` stands where `LD (HL),(HL)` would. -/
def decodeX1 (y z : Nat) : Instr :=
  match tableR y, tableR z with
  | .reg r, .reg r' => .ldReg r r'
  | .reg r, .atHl => .ldFromHl r
  | .atHl, .reg r => .ldToHl r
  | .atHl, .atHl => .halt

/-- The patterns `11 yyy zzz` (30_encoding R157), the prefix `0xCB` (R147) and the invalid bytes
(R160) among them. -/
def decodeX3 (y z : Nat) (n : Byte) (nn : Word) : Instr :=
  match z with
  | 0 =>
    match y with
    | 4 => .ldhAtNA n
    | 5 => .addSpE n
    | 6 => .ldhAAtN n
    | 7 => .ldHlSpE n
    | _ => .retCc (tableCc y)
  | 1 =>
    if y % 2 = 0 then .pop (tableQq (y / 2))
    else match y / 2 with
      | 0 => .ret
      | 1 => .reti
      | 2 => .jpHl
      | _ => .ldSpHl
  | 2 =>
    match y with
    | 4 => .ldhAtCA
    | 5 => .ldAtNnA nn
    | 6 => .ldhAAtC
    | 7 => .ldAAtNn nn
    | _ => .jpCc (tableCc y) nn
  | 3 =>
    match y with
    | 0 => .jpNn nn
    | 1 => decodeCb n
    | 2 => .invalid .xD3
    | 3 => .invalid .xDB
    | 4 => .invalid .xE3
    | 5 => .invalid .xEB
    | 6 => .di
    | _ => .ei
  | 4 =>
    match y with
    | 4 => .invalid .xE4
    | 5 => .invalid .xEC
    | 6 => .invalid .xF4
    | 7 => .invalid .xFC
    | _ => .callCc (tableCc y) nn
  | 5 =>
    if y % 2 = 0 then .push (tableQq (y / 2))
    else match y / 2 with
      | 0 => .callNn nn
      | 1 => .invalid .xDD
      | 2 => .invalid .xED
      | _ => .invalid .xFD
  | 6 => .aluImm (tableAlu y) n
  | _ => .rst (Fin.ofNat 8 y)

/-- Decode a fetch window: total, a function of the three bytes alone (30_encoding R142). The 16-bit
immediate is `b2 * 256 + b1` (R152). -/
def decode (b0 b1 b2 : Byte) : Instr :=
  match fieldX b0 with
  | 0 => decodeX0 (fieldY b0) (fieldZ b0) b1 (join b2 b1)
  | 1 => decodeX1 (fieldY b0) (fieldZ b0)
  | 2 => .alu (tableAlu (fieldY b0)) (tableR (fieldZ b0))
  | _ => decodeX3 (fieldY b0) (fieldZ b0) b1 (join b2 b1)

/-- The length of an instruction from its first byte alone (30_encoding R162). -/
def lengthOf (b0 : Byte) : Nat :=
  if b0 = 0xCB#8 then 2
  else if b0 ∈ [0x01#8, 0x11#8, 0x21#8, 0x31#8, 0x08#8, 0xC2#8, 0xCA#8, 0xD2#8, 0xDA#8, 0xC3#8,
      0xC4#8, 0xCC#8, 0xD4#8, 0xDC#8, 0xCD#8, 0xEA#8, 0xFA#8] then 3
  else if b0 ∈ [0x06#8, 0x0E#8, 0x16#8, 0x1E#8, 0x26#8, 0x2E#8, 0x36#8, 0x3E#8, 0x10#8, 0x18#8,
      0x20#8, 0x28#8, 0x30#8, 0x38#8, 0xC6#8, 0xCE#8, 0xD6#8, 0xDE#8, 0xE6#8, 0xEE#8, 0xF6#8,
      0xFE#8, 0xE0#8, 0xF0#8, 0xE8#8, 0xF8#8] then 2
  else 1

/-- Why a byte list decodes to no instruction (log 15). -/
inductive DecodeError where
  /-- There is no byte. -/
  | noBytes
  /-- The first byte needs more bytes than there are. -/
  | truncated (b0 : Byte)
deriving DecidableEq, Repr

/-- Decode the first instruction of any byte list: the instruction and the bytes after it, or the
name of what is wrong (log 15). -/
def decodeBytes (bytes : List Byte) : Except DecodeError (Instr × List Byte) :=
  match bytes with
  | [] => .error .noBytes
  | b0 :: rest =>
    if rest.length + 1 < lengthOf b0 then .error (.truncated b0)
    else .ok (decode b0 (rest.getD 0 0#8) (rest.getD 1 0#8), rest.drop (lengthOf b0 - 1))

/-! ### The encoder -/

/-- The bytes of an instruction: the table's match byte or bytes, then the immediates, a 16-bit one
low byte first (30_encoding R144 to R147, R152, R156, R158). -/
def encode : Instr → List Byte
  | .nop => [0x00#8] | .ldBcNn nn => [0x01#8, loByte nn, hiByte nn] | .ldAtBcA => [0x02#8]
  | .incBc => [0x03#8] | .incB => [0x04#8] | .decB => [0x05#8] | .ldBN n => [0x06#8, n]
  | .rlca => [0x07#8] | .ldAtNnSp nn => [0x08#8, loByte nn, hiByte nn] | .addHlBc => [0x09#8]
  | .ldAAtBc => [0x0A#8] | .decBc => [0x0B#8] | .incC => [0x0C#8] | .decC => [0x0D#8]
  | .ldCN n => [0x0E#8, n] | .rrca => [0x0F#8] | .stop n => [0x10#8, n]
  | .ldDeNn nn => [0x11#8, loByte nn, hiByte nn] | .ldAtDeA => [0x12#8] | .incDe => [0x13#8]
  | .incD => [0x14#8] | .decD => [0x15#8] | .ldDN n => [0x16#8, n] | .rla => [0x17#8]
  | .jrE e => [0x18#8, e] | .addHlDe => [0x19#8] | .ldAAtDe => [0x1A#8] | .decDe => [0x1B#8]
  | .incE => [0x1C#8] | .decE => [0x1D#8] | .ldEN n => [0x1E#8, n] | .rra => [0x1F#8]
  | .jrNzE e => [0x20#8, e] | .ldHlNn nn => [0x21#8, loByte nn, hiByte nn]
  | .ldAtHlIncA => [0x22#8] | .incHl => [0x23#8] | .incH => [0x24#8] | .decH => [0x25#8]
  | .ldHN n => [0x26#8, n] | .daa => [0x27#8] | .jrZE e => [0x28#8, e] | .addHlHl => [0x29#8]
  | .ldAAtHlInc => [0x2A#8] | .decHl => [0x2B#8] | .incL => [0x2C#8] | .decL => [0x2D#8]
  | .ldLN n => [0x2E#8, n] | .cpl => [0x2F#8] | .jrNcE e => [0x30#8, e]
  | .ldSpNn nn => [0x31#8, loByte nn, hiByte nn] | .ldAtHlDecA => [0x32#8] | .incSp => [0x33#8]
  | .incAtHl => [0x34#8] | .decAtHl => [0x35#8] | .ldAtHlN n => [0x36#8, n] | .scf => [0x37#8]
  | .jrCE e => [0x38#8, e] | .addHlSp => [0x39#8] | .ldAAtHlDec => [0x3A#8] | .decSp => [0x3B#8]
  | .incA => [0x3C#8] | .decA => [0x3D#8] | .ldAN n => [0x3E#8, n] | .ccf => [0x3F#8]
  | .ldBB => [0x40#8] | .ldBC => [0x41#8] | .ldBD => [0x42#8] | .ldBE => [0x43#8]
  | .ldBH => [0x44#8] | .ldBL => [0x45#8] | .ldBAtHl => [0x46#8] | .ldBA => [0x47#8]
  | .ldCB => [0x48#8] | .ldCC => [0x49#8] | .ldCD => [0x4A#8] | .ldCE => [0x4B#8]
  | .ldCH => [0x4C#8] | .ldCL => [0x4D#8] | .ldCAtHl => [0x4E#8] | .ldCA => [0x4F#8]
  | .ldDB => [0x50#8] | .ldDC => [0x51#8] | .ldDD => [0x52#8] | .ldDE => [0x53#8]
  | .ldDH => [0x54#8] | .ldDL => [0x55#8] | .ldDAtHl => [0x56#8] | .ldDA => [0x57#8]
  | .ldEB => [0x58#8] | .ldEC => [0x59#8] | .ldED => [0x5A#8] | .ldEE => [0x5B#8]
  | .ldEH => [0x5C#8] | .ldEL => [0x5D#8] | .ldEAtHl => [0x5E#8] | .ldEA => [0x5F#8]
  | .ldHB => [0x60#8] | .ldHC => [0x61#8] | .ldHD => [0x62#8] | .ldHE => [0x63#8]
  | .ldHH => [0x64#8] | .ldHL => [0x65#8] | .ldHAtHl => [0x66#8] | .ldHA => [0x67#8]
  | .ldLB => [0x68#8] | .ldLC => [0x69#8] | .ldLD => [0x6A#8] | .ldLE => [0x6B#8]
  | .ldLH => [0x6C#8] | .ldLL => [0x6D#8] | .ldLAtHl => [0x6E#8] | .ldLA => [0x6F#8]
  | .ldAtHlB => [0x70#8] | .ldAtHlC => [0x71#8] | .ldAtHlD => [0x72#8] | .ldAtHlE => [0x73#8]
  | .ldAtHlH => [0x74#8] | .ldAtHlL => [0x75#8] | .halt => [0x76#8] | .ldAtHlA => [0x77#8]
  | .ldAB => [0x78#8] | .ldAC => [0x79#8] | .ldAD => [0x7A#8] | .ldAE => [0x7B#8]
  | .ldAH => [0x7C#8] | .ldAL => [0x7D#8] | .ldAAtHl => [0x7E#8] | .ldAA => [0x7F#8]
  | .addAB => [0x80#8] | .addAC => [0x81#8] | .addAD => [0x82#8] | .addAE => [0x83#8]
  | .addAH => [0x84#8] | .addAL => [0x85#8] | .addAAtHl => [0x86#8] | .addAA => [0x87#8]
  | .adcAB => [0x88#8] | .adcAC => [0x89#8] | .adcAD => [0x8A#8] | .adcAE => [0x8B#8]
  | .adcAH => [0x8C#8] | .adcAL => [0x8D#8] | .adcAAtHl => [0x8E#8] | .adcAA => [0x8F#8]
  | .subB => [0x90#8] | .subC => [0x91#8] | .subD => [0x92#8] | .subE => [0x93#8]
  | .subH => [0x94#8] | .subL => [0x95#8] | .subAtHl => [0x96#8] | .subA => [0x97#8]
  | .sbcAB => [0x98#8] | .sbcAC => [0x99#8] | .sbcAD => [0x9A#8] | .sbcAE => [0x9B#8]
  | .sbcAH => [0x9C#8] | .sbcAL => [0x9D#8] | .sbcAAtHl => [0x9E#8] | .sbcAA => [0x9F#8]
  | .andB => [0xA0#8] | .andC => [0xA1#8] | .andD => [0xA2#8] | .andE => [0xA3#8]
  | .andH => [0xA4#8] | .andL => [0xA5#8] | .andAtHl => [0xA6#8] | .andA => [0xA7#8]
  | .xorB => [0xA8#8] | .xorC => [0xA9#8] | .xorD => [0xAA#8] | .xorE => [0xAB#8]
  | .xorH => [0xAC#8] | .xorL => [0xAD#8] | .xorAtHl => [0xAE#8] | .xorA => [0xAF#8]
  | .orB => [0xB0#8] | .orC => [0xB1#8] | .orD => [0xB2#8] | .orE => [0xB3#8] | .orH => [0xB4#8]
  | .orL => [0xB5#8] | .orAtHl => [0xB6#8] | .orA => [0xB7#8] | .cpB => [0xB8#8]
  | .cpC => [0xB9#8] | .cpD => [0xBA#8] | .cpE => [0xBB#8] | .cpH => [0xBC#8] | .cpL => [0xBD#8]
  | .cpAtHl => [0xBE#8] | .cpA => [0xBF#8] | .retNz => [0xC0#8] | .popBc => [0xC1#8]
  | .jpNzNn nn => [0xC2#8, loByte nn, hiByte nn] | .jpNn nn => [0xC3#8, loByte nn, hiByte nn]
  | .callNzNn nn => [0xC4#8, loByte nn, hiByte nn] | .pushBc => [0xC5#8]
  | .addAN n => [0xC6#8, n] | .rst00 => [0xC7#8] | .retZ => [0xC8#8] | .ret => [0xC9#8]
  | .jpZNn nn => [0xCA#8, loByte nn, hiByte nn] | .callZNn nn => [0xCC#8, loByte nn, hiByte nn]
  | .callNn nn => [0xCD#8, loByte nn, hiByte nn] | .adcAN n => [0xCE#8, n] | .rst08 => [0xCF#8]
  | .retNc => [0xD0#8] | .popDe => [0xD1#8] | .jpNcNn nn => [0xD2#8, loByte nn, hiByte nn]
  | .invalidD3 => [0xD3#8] | .callNcNn nn => [0xD4#8, loByte nn, hiByte nn] | .pushDe => [0xD5#8]
  | .subN n => [0xD6#8, n] | .rst10 => [0xD7#8] | .retC => [0xD8#8] | .reti => [0xD9#8]
  | .jpCNn nn => [0xDA#8, loByte nn, hiByte nn] | .invalidDB => [0xDB#8]
  | .callCNn nn => [0xDC#8, loByte nn, hiByte nn] | .invalidDD => [0xDD#8]
  | .sbcAN n => [0xDE#8, n] | .rst18 => [0xDF#8] | .ldhAtNA n => [0xE0#8, n] | .popHl => [0xE1#8]
  | .ldhAtCA => [0xE2#8] | .invalidE3 => [0xE3#8] | .invalidE4 => [0xE4#8] | .pushHl => [0xE5#8]
  | .andN n => [0xE6#8, n] | .rst20 => [0xE7#8] | .addSpE e => [0xE8#8, e] | .jpHl => [0xE9#8]
  | .ldAtNnA nn => [0xEA#8, loByte nn, hiByte nn] | .invalidEB => [0xEB#8]
  | .invalidEC => [0xEC#8] | .invalidED => [0xED#8] | .xorN n => [0xEE#8, n] | .rst28 => [0xEF#8]
  | .ldhAAtN n => [0xF0#8, n] | .popAf => [0xF1#8] | .ldhAAtC => [0xF2#8] | .di => [0xF3#8]
  | .invalidF4 => [0xF4#8] | .pushAf => [0xF5#8] | .orN n => [0xF6#8, n] | .rst30 => [0xF7#8]
  | .ldHlSpE e => [0xF8#8, e] | .ldSpHl => [0xF9#8]
  | .ldAAtNn nn => [0xFA#8, loByte nn, hiByte nn] | .ei => [0xFB#8] | .invalidFC => [0xFC#8]
  | .invalidFD => [0xFD#8] | .cpN n => [0xFE#8, n] | .rst38 => [0xFF#8]
  | .rlcB => [0xCB#8, 0x00#8] | .rlcC => [0xCB#8, 0x01#8] | .rlcD => [0xCB#8, 0x02#8]
  | .rlcE => [0xCB#8, 0x03#8] | .rlcH => [0xCB#8, 0x04#8] | .rlcL => [0xCB#8, 0x05#8]
  | .rlcAtHl => [0xCB#8, 0x06#8] | .rlcA => [0xCB#8, 0x07#8] | .rrcB => [0xCB#8, 0x08#8]
  | .rrcC => [0xCB#8, 0x09#8] | .rrcD => [0xCB#8, 0x0A#8] | .rrcE => [0xCB#8, 0x0B#8]
  | .rrcH => [0xCB#8, 0x0C#8] | .rrcL => [0xCB#8, 0x0D#8] | .rrcAtHl => [0xCB#8, 0x0E#8]
  | .rrcA => [0xCB#8, 0x0F#8] | .rlB => [0xCB#8, 0x10#8] | .rlC => [0xCB#8, 0x11#8]
  | .rlD => [0xCB#8, 0x12#8] | .rlE => [0xCB#8, 0x13#8] | .rlH => [0xCB#8, 0x14#8]
  | .rlL => [0xCB#8, 0x15#8] | .rlAtHl => [0xCB#8, 0x16#8] | .rlA => [0xCB#8, 0x17#8]
  | .rrB => [0xCB#8, 0x18#8] | .rrC => [0xCB#8, 0x19#8] | .rrD => [0xCB#8, 0x1A#8]
  | .rrE => [0xCB#8, 0x1B#8] | .rrH => [0xCB#8, 0x1C#8] | .rrL => [0xCB#8, 0x1D#8]
  | .rrAtHl => [0xCB#8, 0x1E#8] | .rrA => [0xCB#8, 0x1F#8] | .slaB => [0xCB#8, 0x20#8]
  | .slaC => [0xCB#8, 0x21#8] | .slaD => [0xCB#8, 0x22#8] | .slaE => [0xCB#8, 0x23#8]
  | .slaH => [0xCB#8, 0x24#8] | .slaL => [0xCB#8, 0x25#8] | .slaAtHl => [0xCB#8, 0x26#8]
  | .slaA => [0xCB#8, 0x27#8] | .sraB => [0xCB#8, 0x28#8] | .sraC => [0xCB#8, 0x29#8]
  | .sraD => [0xCB#8, 0x2A#8] | .sraE => [0xCB#8, 0x2B#8] | .sraH => [0xCB#8, 0x2C#8]
  | .sraL => [0xCB#8, 0x2D#8] | .sraAtHl => [0xCB#8, 0x2E#8] | .sraA => [0xCB#8, 0x2F#8]
  | .swapB => [0xCB#8, 0x30#8] | .swapC => [0xCB#8, 0x31#8] | .swapD => [0xCB#8, 0x32#8]
  | .swapE => [0xCB#8, 0x33#8] | .swapH => [0xCB#8, 0x34#8] | .swapL => [0xCB#8, 0x35#8]
  | .swapAtHl => [0xCB#8, 0x36#8] | .swapA => [0xCB#8, 0x37#8] | .srlB => [0xCB#8, 0x38#8]
  | .srlC => [0xCB#8, 0x39#8] | .srlD => [0xCB#8, 0x3A#8] | .srlE => [0xCB#8, 0x3B#8]
  | .srlH => [0xCB#8, 0x3C#8] | .srlL => [0xCB#8, 0x3D#8] | .srlAtHl => [0xCB#8, 0x3E#8]
  | .srlA => [0xCB#8, 0x3F#8] | .bit0B => [0xCB#8, 0x40#8] | .bit0C => [0xCB#8, 0x41#8]
  | .bit0D => [0xCB#8, 0x42#8] | .bit0E => [0xCB#8, 0x43#8] | .bit0H => [0xCB#8, 0x44#8]
  | .bit0L => [0xCB#8, 0x45#8] | .bit0AtHl => [0xCB#8, 0x46#8] | .bit0A => [0xCB#8, 0x47#8]
  | .bit1B => [0xCB#8, 0x48#8] | .bit1C => [0xCB#8, 0x49#8] | .bit1D => [0xCB#8, 0x4A#8]
  | .bit1E => [0xCB#8, 0x4B#8] | .bit1H => [0xCB#8, 0x4C#8] | .bit1L => [0xCB#8, 0x4D#8]
  | .bit1AtHl => [0xCB#8, 0x4E#8] | .bit1A => [0xCB#8, 0x4F#8] | .bit2B => [0xCB#8, 0x50#8]
  | .bit2C => [0xCB#8, 0x51#8] | .bit2D => [0xCB#8, 0x52#8] | .bit2E => [0xCB#8, 0x53#8]
  | .bit2H => [0xCB#8, 0x54#8] | .bit2L => [0xCB#8, 0x55#8] | .bit2AtHl => [0xCB#8, 0x56#8]
  | .bit2A => [0xCB#8, 0x57#8] | .bit3B => [0xCB#8, 0x58#8] | .bit3C => [0xCB#8, 0x59#8]
  | .bit3D => [0xCB#8, 0x5A#8] | .bit3E => [0xCB#8, 0x5B#8] | .bit3H => [0xCB#8, 0x5C#8]
  | .bit3L => [0xCB#8, 0x5D#8] | .bit3AtHl => [0xCB#8, 0x5E#8] | .bit3A => [0xCB#8, 0x5F#8]
  | .bit4B => [0xCB#8, 0x60#8] | .bit4C => [0xCB#8, 0x61#8] | .bit4D => [0xCB#8, 0x62#8]
  | .bit4E => [0xCB#8, 0x63#8] | .bit4H => [0xCB#8, 0x64#8] | .bit4L => [0xCB#8, 0x65#8]
  | .bit4AtHl => [0xCB#8, 0x66#8] | .bit4A => [0xCB#8, 0x67#8] | .bit5B => [0xCB#8, 0x68#8]
  | .bit5C => [0xCB#8, 0x69#8] | .bit5D => [0xCB#8, 0x6A#8] | .bit5E => [0xCB#8, 0x6B#8]
  | .bit5H => [0xCB#8, 0x6C#8] | .bit5L => [0xCB#8, 0x6D#8] | .bit5AtHl => [0xCB#8, 0x6E#8]
  | .bit5A => [0xCB#8, 0x6F#8] | .bit6B => [0xCB#8, 0x70#8] | .bit6C => [0xCB#8, 0x71#8]
  | .bit6D => [0xCB#8, 0x72#8] | .bit6E => [0xCB#8, 0x73#8] | .bit6H => [0xCB#8, 0x74#8]
  | .bit6L => [0xCB#8, 0x75#8] | .bit6AtHl => [0xCB#8, 0x76#8] | .bit6A => [0xCB#8, 0x77#8]
  | .bit7B => [0xCB#8, 0x78#8] | .bit7C => [0xCB#8, 0x79#8] | .bit7D => [0xCB#8, 0x7A#8]
  | .bit7E => [0xCB#8, 0x7B#8] | .bit7H => [0xCB#8, 0x7C#8] | .bit7L => [0xCB#8, 0x7D#8]
  | .bit7AtHl => [0xCB#8, 0x7E#8] | .bit7A => [0xCB#8, 0x7F#8] | .res0B => [0xCB#8, 0x80#8]
  | .res0C => [0xCB#8, 0x81#8] | .res0D => [0xCB#8, 0x82#8] | .res0E => [0xCB#8, 0x83#8]
  | .res0H => [0xCB#8, 0x84#8] | .res0L => [0xCB#8, 0x85#8] | .res0AtHl => [0xCB#8, 0x86#8]
  | .res0A => [0xCB#8, 0x87#8] | .res1B => [0xCB#8, 0x88#8] | .res1C => [0xCB#8, 0x89#8]
  | .res1D => [0xCB#8, 0x8A#8] | .res1E => [0xCB#8, 0x8B#8] | .res1H => [0xCB#8, 0x8C#8]
  | .res1L => [0xCB#8, 0x8D#8] | .res1AtHl => [0xCB#8, 0x8E#8] | .res1A => [0xCB#8, 0x8F#8]
  | .res2B => [0xCB#8, 0x90#8] | .res2C => [0xCB#8, 0x91#8] | .res2D => [0xCB#8, 0x92#8]
  | .res2E => [0xCB#8, 0x93#8] | .res2H => [0xCB#8, 0x94#8] | .res2L => [0xCB#8, 0x95#8]
  | .res2AtHl => [0xCB#8, 0x96#8] | .res2A => [0xCB#8, 0x97#8] | .res3B => [0xCB#8, 0x98#8]
  | .res3C => [0xCB#8, 0x99#8] | .res3D => [0xCB#8, 0x9A#8] | .res3E => [0xCB#8, 0x9B#8]
  | .res3H => [0xCB#8, 0x9C#8] | .res3L => [0xCB#8, 0x9D#8] | .res3AtHl => [0xCB#8, 0x9E#8]
  | .res3A => [0xCB#8, 0x9F#8] | .res4B => [0xCB#8, 0xA0#8] | .res4C => [0xCB#8, 0xA1#8]
  | .res4D => [0xCB#8, 0xA2#8] | .res4E => [0xCB#8, 0xA3#8] | .res4H => [0xCB#8, 0xA4#8]
  | .res4L => [0xCB#8, 0xA5#8] | .res4AtHl => [0xCB#8, 0xA6#8] | .res4A => [0xCB#8, 0xA7#8]
  | .res5B => [0xCB#8, 0xA8#8] | .res5C => [0xCB#8, 0xA9#8] | .res5D => [0xCB#8, 0xAA#8]
  | .res5E => [0xCB#8, 0xAB#8] | .res5H => [0xCB#8, 0xAC#8] | .res5L => [0xCB#8, 0xAD#8]
  | .res5AtHl => [0xCB#8, 0xAE#8] | .res5A => [0xCB#8, 0xAF#8] | .res6B => [0xCB#8, 0xB0#8]
  | .res6C => [0xCB#8, 0xB1#8] | .res6D => [0xCB#8, 0xB2#8] | .res6E => [0xCB#8, 0xB3#8]
  | .res6H => [0xCB#8, 0xB4#8] | .res6L => [0xCB#8, 0xB5#8] | .res6AtHl => [0xCB#8, 0xB6#8]
  | .res6A => [0xCB#8, 0xB7#8] | .res7B => [0xCB#8, 0xB8#8] | .res7C => [0xCB#8, 0xB9#8]
  | .res7D => [0xCB#8, 0xBA#8] | .res7E => [0xCB#8, 0xBB#8] | .res7H => [0xCB#8, 0xBC#8]
  | .res7L => [0xCB#8, 0xBD#8] | .res7AtHl => [0xCB#8, 0xBE#8] | .res7A => [0xCB#8, 0xBF#8]
  | .set0B => [0xCB#8, 0xC0#8] | .set0C => [0xCB#8, 0xC1#8] | .set0D => [0xCB#8, 0xC2#8]
  | .set0E => [0xCB#8, 0xC3#8] | .set0H => [0xCB#8, 0xC4#8] | .set0L => [0xCB#8, 0xC5#8]
  | .set0AtHl => [0xCB#8, 0xC6#8] | .set0A => [0xCB#8, 0xC7#8] | .set1B => [0xCB#8, 0xC8#8]
  | .set1C => [0xCB#8, 0xC9#8] | .set1D => [0xCB#8, 0xCA#8] | .set1E => [0xCB#8, 0xCB#8]
  | .set1H => [0xCB#8, 0xCC#8] | .set1L => [0xCB#8, 0xCD#8] | .set1AtHl => [0xCB#8, 0xCE#8]
  | .set1A => [0xCB#8, 0xCF#8] | .set2B => [0xCB#8, 0xD0#8] | .set2C => [0xCB#8, 0xD1#8]
  | .set2D => [0xCB#8, 0xD2#8] | .set2E => [0xCB#8, 0xD3#8] | .set2H => [0xCB#8, 0xD4#8]
  | .set2L => [0xCB#8, 0xD5#8] | .set2AtHl => [0xCB#8, 0xD6#8] | .set2A => [0xCB#8, 0xD7#8]
  | .set3B => [0xCB#8, 0xD8#8] | .set3C => [0xCB#8, 0xD9#8] | .set3D => [0xCB#8, 0xDA#8]
  | .set3E => [0xCB#8, 0xDB#8] | .set3H => [0xCB#8, 0xDC#8] | .set3L => [0xCB#8, 0xDD#8]
  | .set3AtHl => [0xCB#8, 0xDE#8] | .set3A => [0xCB#8, 0xDF#8] | .set4B => [0xCB#8, 0xE0#8]
  | .set4C => [0xCB#8, 0xE1#8] | .set4D => [0xCB#8, 0xE2#8] | .set4E => [0xCB#8, 0xE3#8]
  | .set4H => [0xCB#8, 0xE4#8] | .set4L => [0xCB#8, 0xE5#8] | .set4AtHl => [0xCB#8, 0xE6#8]
  | .set4A => [0xCB#8, 0xE7#8] | .set5B => [0xCB#8, 0xE8#8] | .set5C => [0xCB#8, 0xE9#8]
  | .set5D => [0xCB#8, 0xEA#8] | .set5E => [0xCB#8, 0xEB#8] | .set5H => [0xCB#8, 0xEC#8]
  | .set5L => [0xCB#8, 0xED#8] | .set5AtHl => [0xCB#8, 0xEE#8] | .set5A => [0xCB#8, 0xEF#8]
  | .set6B => [0xCB#8, 0xF0#8] | .set6C => [0xCB#8, 0xF1#8] | .set6D => [0xCB#8, 0xF2#8]
  | .set6E => [0xCB#8, 0xF3#8] | .set6H => [0xCB#8, 0xF4#8] | .set6L => [0xCB#8, 0xF5#8]
  | .set6AtHl => [0xCB#8, 0xF6#8] | .set6A => [0xCB#8, 0xF7#8] | .set7B => [0xCB#8, 0xF8#8]
  | .set7C => [0xCB#8, 0xF9#8] | .set7D => [0xCB#8, 0xFA#8] | .set7E => [0xCB#8, 0xFB#8]
  | .set7H => [0xCB#8, 0xFC#8] | .set7L => [0xCB#8, 0xFD#8] | .set7AtHl => [0xCB#8, 0xFE#8]
  | .set7A => [0xCB#8, 0xFF#8]

/-! ### The static properties of a row (30_encoding R143) -/

/-- The length in bytes: of the bytes of the encoding. -/
def Instr.len (i : Instr) : Nat := (encode i).length

/-- The `cycles` of a row, the taken cost; an invalid byte has none (30_encoding R143, R156, R158;
70_reset_and_hazards R412). -/
def Instr.cycles : Instr → Option Nat
  | .nop => some 1 | .ldBcNn _ => some 3 | .ldAtBcA => some 2 | .incBc => some 2
  | .incB => some 1 | .decB => some 1 | .ldBN _ => some 2 | .rlca => some 1
  | .ldAtNnSp _ => some 5 | .addHlBc => some 2 | .ldAAtBc => some 2 | .decBc => some 2
  | .incC => some 1 | .decC => some 1 | .ldCN _ => some 2 | .rrca => some 1 | .stop _ => some 1
  | .ldDeNn _ => some 3 | .ldAtDeA => some 2 | .incDe => some 2 | .incD => some 1
  | .decD => some 1 | .ldDN _ => some 2 | .rla => some 1 | .jrE _ => some 3 | .addHlDe => some 2
  | .ldAAtDe => some 2 | .decDe => some 2 | .incE => some 1 | .decE => some 1 | .ldEN _ => some 2
  | .rra => some 1 | .jrNzE _ => some 3 | .ldHlNn _ => some 3 | .ldAtHlIncA => some 2
  | .incHl => some 2 | .incH => some 1 | .decH => some 1 | .ldHN _ => some 2 | .daa => some 1
  | .jrZE _ => some 3 | .addHlHl => some 2 | .ldAAtHlInc => some 2 | .decHl => some 2
  | .incL => some 1 | .decL => some 1 | .ldLN _ => some 2 | .cpl => some 1 | .jrNcE _ => some 3
  | .ldSpNn _ => some 3 | .ldAtHlDecA => some 2 | .incSp => some 2 | .incAtHl => some 3
  | .decAtHl => some 3 | .ldAtHlN _ => some 3 | .scf => some 1 | .jrCE _ => some 3
  | .addHlSp => some 2 | .ldAAtHlDec => some 2 | .decSp => some 2 | .incA => some 1
  | .decA => some 1 | .ldAN _ => some 2 | .ccf => some 1 | .ldBB => some 1 | .ldBC => some 1
  | .ldBD => some 1 | .ldBE => some 1 | .ldBH => some 1 | .ldBL => some 1 | .ldBAtHl => some 2
  | .ldBA => some 1 | .ldCB => some 1 | .ldCC => some 1 | .ldCD => some 1 | .ldCE => some 1
  | .ldCH => some 1 | .ldCL => some 1 | .ldCAtHl => some 2 | .ldCA => some 1 | .ldDB => some 1
  | .ldDC => some 1 | .ldDD => some 1 | .ldDE => some 1 | .ldDH => some 1 | .ldDL => some 1
  | .ldDAtHl => some 2 | .ldDA => some 1 | .ldEB => some 1 | .ldEC => some 1 | .ldED => some 1
  | .ldEE => some 1 | .ldEH => some 1 | .ldEL => some 1 | .ldEAtHl => some 2 | .ldEA => some 1
  | .ldHB => some 1 | .ldHC => some 1 | .ldHD => some 1 | .ldHE => some 1 | .ldHH => some 1
  | .ldHL => some 1 | .ldHAtHl => some 2 | .ldHA => some 1 | .ldLB => some 1 | .ldLC => some 1
  | .ldLD => some 1 | .ldLE => some 1 | .ldLH => some 1 | .ldLL => some 1 | .ldLAtHl => some 2
  | .ldLA => some 1 | .ldAtHlB => some 2 | .ldAtHlC => some 2 | .ldAtHlD => some 2
  | .ldAtHlE => some 2 | .ldAtHlH => some 2 | .ldAtHlL => some 2 | .halt => some 1
  | .ldAtHlA => some 2 | .ldAB => some 1 | .ldAC => some 1 | .ldAD => some 1 | .ldAE => some 1
  | .ldAH => some 1 | .ldAL => some 1 | .ldAAtHl => some 2 | .ldAA => some 1 | .addAB => some 1
  | .addAC => some 1 | .addAD => some 1 | .addAE => some 1 | .addAH => some 1 | .addAL => some 1
  | .addAAtHl => some 2 | .addAA => some 1 | .adcAB => some 1 | .adcAC => some 1
  | .adcAD => some 1 | .adcAE => some 1 | .adcAH => some 1 | .adcAL => some 1
  | .adcAAtHl => some 2 | .adcAA => some 1 | .subB => some 1 | .subC => some 1 | .subD => some 1
  | .subE => some 1 | .subH => some 1 | .subL => some 1 | .subAtHl => some 2 | .subA => some 1
  | .sbcAB => some 1 | .sbcAC => some 1 | .sbcAD => some 1 | .sbcAE => some 1 | .sbcAH => some 1
  | .sbcAL => some 1 | .sbcAAtHl => some 2 | .sbcAA => some 1 | .andB => some 1 | .andC => some 1
  | .andD => some 1 | .andE => some 1 | .andH => some 1 | .andL => some 1 | .andAtHl => some 2
  | .andA => some 1 | .xorB => some 1 | .xorC => some 1 | .xorD => some 1 | .xorE => some 1
  | .xorH => some 1 | .xorL => some 1 | .xorAtHl => some 2 | .xorA => some 1 | .orB => some 1
  | .orC => some 1 | .orD => some 1 | .orE => some 1 | .orH => some 1 | .orL => some 1
  | .orAtHl => some 2 | .orA => some 1 | .cpB => some 1 | .cpC => some 1 | .cpD => some 1
  | .cpE => some 1 | .cpH => some 1 | .cpL => some 1 | .cpAtHl => some 2 | .cpA => some 1
  | .retNz => some 5 | .popBc => some 3 | .jpNzNn _ => some 4 | .jpNn _ => some 4
  | .callNzNn _ => some 6 | .pushBc => some 4 | .addAN _ => some 2 | .rst00 => some 4
  | .retZ => some 5 | .ret => some 4 | .jpZNn _ => some 4 | .callZNn _ => some 6
  | .callNn _ => some 6 | .adcAN _ => some 2 | .rst08 => some 4 | .retNc => some 5
  | .popDe => some 3 | .jpNcNn _ => some 4 | .invalidD3 => none | .callNcNn _ => some 6
  | .pushDe => some 4 | .subN _ => some 2 | .rst10 => some 4 | .retC => some 5 | .reti => some 4
  | .jpCNn _ => some 4 | .invalidDB => none | .callCNn _ => some 6 | .invalidDD => none
  | .sbcAN _ => some 2 | .rst18 => some 4 | .ldhAtNA _ => some 3 | .popHl => some 3
  | .ldhAtCA => some 2 | .invalidE3 => none | .invalidE4 => none | .pushHl => some 4
  | .andN _ => some 2 | .rst20 => some 4 | .addSpE _ => some 4 | .jpHl => some 1
  | .ldAtNnA _ => some 4 | .invalidEB => none | .invalidEC => none | .invalidED => none
  | .xorN _ => some 2 | .rst28 => some 4 | .ldhAAtN _ => some 3 | .popAf => some 3
  | .ldhAAtC => some 2 | .di => some 1 | .invalidF4 => none | .pushAf => some 4
  | .orN _ => some 2 | .rst30 => some 4 | .ldHlSpE _ => some 3 | .ldSpHl => some 2
  | .ldAAtNn _ => some 4 | .ei => some 1 | .invalidFC => none | .invalidFD => none
  | .cpN _ => some 2 | .rst38 => some 4 | .rlcB => some 2 | .rlcC => some 2 | .rlcD => some 2
  | .rlcE => some 2 | .rlcH => some 2 | .rlcL => some 2 | .rlcAtHl => some 4 | .rlcA => some 2
  | .rrcB => some 2 | .rrcC => some 2 | .rrcD => some 2 | .rrcE => some 2 | .rrcH => some 2
  | .rrcL => some 2 | .rrcAtHl => some 4 | .rrcA => some 2 | .rlB => some 2 | .rlC => some 2
  | .rlD => some 2 | .rlE => some 2 | .rlH => some 2 | .rlL => some 2 | .rlAtHl => some 4
  | .rlA => some 2 | .rrB => some 2 | .rrC => some 2 | .rrD => some 2 | .rrE => some 2
  | .rrH => some 2 | .rrL => some 2 | .rrAtHl => some 4 | .rrA => some 2 | .slaB => some 2
  | .slaC => some 2 | .slaD => some 2 | .slaE => some 2 | .slaH => some 2 | .slaL => some 2
  | .slaAtHl => some 4 | .slaA => some 2 | .sraB => some 2 | .sraC => some 2 | .sraD => some 2
  | .sraE => some 2 | .sraH => some 2 | .sraL => some 2 | .sraAtHl => some 4 | .sraA => some 2
  | .swapB => some 2 | .swapC => some 2 | .swapD => some 2 | .swapE => some 2 | .swapH => some 2
  | .swapL => some 2 | .swapAtHl => some 4 | .swapA => some 2 | .srlB => some 2 | .srlC => some 2
  | .srlD => some 2 | .srlE => some 2 | .srlH => some 2 | .srlL => some 2 | .srlAtHl => some 4
  | .srlA => some 2 | .bit0B => some 2 | .bit0C => some 2 | .bit0D => some 2 | .bit0E => some 2
  | .bit0H => some 2 | .bit0L => some 2 | .bit0AtHl => some 3 | .bit0A => some 2
  | .bit1B => some 2 | .bit1C => some 2 | .bit1D => some 2 | .bit1E => some 2 | .bit1H => some 2
  | .bit1L => some 2 | .bit1AtHl => some 3 | .bit1A => some 2 | .bit2B => some 2
  | .bit2C => some 2 | .bit2D => some 2 | .bit2E => some 2 | .bit2H => some 2 | .bit2L => some 2
  | .bit2AtHl => some 3 | .bit2A => some 2 | .bit3B => some 2 | .bit3C => some 2
  | .bit3D => some 2 | .bit3E => some 2 | .bit3H => some 2 | .bit3L => some 2
  | .bit3AtHl => some 3 | .bit3A => some 2 | .bit4B => some 2 | .bit4C => some 2
  | .bit4D => some 2 | .bit4E => some 2 | .bit4H => some 2 | .bit4L => some 2
  | .bit4AtHl => some 3 | .bit4A => some 2 | .bit5B => some 2 | .bit5C => some 2
  | .bit5D => some 2 | .bit5E => some 2 | .bit5H => some 2 | .bit5L => some 2
  | .bit5AtHl => some 3 | .bit5A => some 2 | .bit6B => some 2 | .bit6C => some 2
  | .bit6D => some 2 | .bit6E => some 2 | .bit6H => some 2 | .bit6L => some 2
  | .bit6AtHl => some 3 | .bit6A => some 2 | .bit7B => some 2 | .bit7C => some 2
  | .bit7D => some 2 | .bit7E => some 2 | .bit7H => some 2 | .bit7L => some 2
  | .bit7AtHl => some 3 | .bit7A => some 2 | .res0B => some 2 | .res0C => some 2
  | .res0D => some 2 | .res0E => some 2 | .res0H => some 2 | .res0L => some 2
  | .res0AtHl => some 4 | .res0A => some 2 | .res1B => some 2 | .res1C => some 2
  | .res1D => some 2 | .res1E => some 2 | .res1H => some 2 | .res1L => some 2
  | .res1AtHl => some 4 | .res1A => some 2 | .res2B => some 2 | .res2C => some 2
  | .res2D => some 2 | .res2E => some 2 | .res2H => some 2 | .res2L => some 2
  | .res2AtHl => some 4 | .res2A => some 2 | .res3B => some 2 | .res3C => some 2
  | .res3D => some 2 | .res3E => some 2 | .res3H => some 2 | .res3L => some 2
  | .res3AtHl => some 4 | .res3A => some 2 | .res4B => some 2 | .res4C => some 2
  | .res4D => some 2 | .res4E => some 2 | .res4H => some 2 | .res4L => some 2
  | .res4AtHl => some 4 | .res4A => some 2 | .res5B => some 2 | .res5C => some 2
  | .res5D => some 2 | .res5E => some 2 | .res5H => some 2 | .res5L => some 2
  | .res5AtHl => some 4 | .res5A => some 2 | .res6B => some 2 | .res6C => some 2
  | .res6D => some 2 | .res6E => some 2 | .res6H => some 2 | .res6L => some 2
  | .res6AtHl => some 4 | .res6A => some 2 | .res7B => some 2 | .res7C => some 2
  | .res7D => some 2 | .res7E => some 2 | .res7H => some 2 | .res7L => some 2
  | .res7AtHl => some 4 | .res7A => some 2 | .set0B => some 2 | .set0C => some 2
  | .set0D => some 2 | .set0E => some 2 | .set0H => some 2 | .set0L => some 2
  | .set0AtHl => some 4 | .set0A => some 2 | .set1B => some 2 | .set1C => some 2
  | .set1D => some 2 | .set1E => some 2 | .set1H => some 2 | .set1L => some 2
  | .set1AtHl => some 4 | .set1A => some 2 | .set2B => some 2 | .set2C => some 2
  | .set2D => some 2 | .set2E => some 2 | .set2H => some 2 | .set2L => some 2
  | .set2AtHl => some 4 | .set2A => some 2 | .set3B => some 2 | .set3C => some 2
  | .set3D => some 2 | .set3E => some 2 | .set3H => some 2 | .set3L => some 2
  | .set3AtHl => some 4 | .set3A => some 2 | .set4B => some 2 | .set4C => some 2
  | .set4D => some 2 | .set4E => some 2 | .set4H => some 2 | .set4L => some 2
  | .set4AtHl => some 4 | .set4A => some 2 | .set5B => some 2 | .set5C => some 2
  | .set5D => some 2 | .set5E => some 2 | .set5H => some 2 | .set5L => some 2
  | .set5AtHl => some 4 | .set5A => some 2 | .set6B => some 2 | .set6C => some 2
  | .set6D => some 2 | .set6E => some 2 | .set6H => some 2 | .set6L => some 2
  | .set6AtHl => some 4 | .set6A => some 2 | .set7B => some 2 | .set7C => some 2
  | .set7D => some 2 | .set7E => some 2 | .set7H => some 2 | .set7L => some 2
  | .set7AtHl => some 4 | .set7A => some 2

/-- The `cycles_not_taken` of the conditional rows (45_control_flow R310). -/
def Instr.cyclesNotTaken : Instr → Option Nat
  | .jrNzE _ => some 2 | .jrZE _ => some 2 | .jrNcE _ => some 2 | .jrCE _ => some 2
  | .retNz => some 2 | .jpNzNn _ => some 3 | .callNzNn _ => some 3 | .retZ => some 2
  | .jpZNn _ => some 3 | .callZNn _ => some 3 | .retNc => some 2 | .jpNcNn _ => some 3
  | .callNcNn _ => some 3 | .retC => some 2 | .jpCNn _ => some 3 | .callCNn _ => some 3
  | _ => none

/-! ### The table's words -/

/-- The three window bytes of a word of the opcode table: byte `k` of the instruction is bits
`8 k + 7` to `8 k`. A row under the prefix is numbered in the table as the number 0xCB00 + `b1`, its
first byte in the high bits: such a word, 16 bits long with 0xCB above, is read so (log 17). -/
def tableWindow (nbits w : Nat) : Byte × Byte × Byte :=
  let v := w % 2 ^ nbits
  let b0 := BitVec.ofNat 8 v
  let b1 := BitVec.ofNat 8 (v / 256)
  if nbits = 16 ∧ b1 = 0xCB#8 ∧ b0 ≠ 0xCB#8 then (b1, b0, 0#8)
  else (b0, b1, BitVec.ofNat 8 (v / 65536))

/-- The instruction the decoder reads from a word of the opcode table: `none` for a word without a
whole byte, or longer than the longest instruction. -/
def decodeTableWord (nbits w : Nat) : Option Instr :=
  if 8 ≤ nbits ∧ nbits ≤ 24 then
    let x := tableWindow nbits w
    some (decode x.1 x.2.1 x.2.2)
  else none

end Sys2Proof
end

