-- ==== Sys2Proof/Machine/Memory.lean ====
section
/-! DEFINITION. A storage array of bytes: a list of (index, byte) in one canonical form (indexes
strictly rising, no entry equal to what an unlisted index reads as). -/

namespace Sys2Proof.Machine

/-- A storage array, keyed by index (for `ROM` the image offset, 10_state R38). -/
abbrev Memory := List Host.Cell

/-- What an unlisted index reads as: the arrays of 10_state R50 are all 0x00 at reset (log 3). -/
def Memory.unlisted : Byte := 0x00#8

/-- The byte at index `k`. -/
def Memory.read : Memory → Nat → Byte
  | [], _ => Memory.unlisted
  | (i, v) :: m, k => if i = k then v else Memory.read m k

/-- Store `v` at index `k`, keeping the canonical form. -/
def Memory.write : Memory → Nat → Byte → Memory
  | [], k, v => if v = Memory.unlisted then [] else [(k, v)]
  | (i, w) :: m, k, v =>
    if k < i then (if v = Memory.unlisted then (i, w) :: m else (k, v) :: (i, w) :: m)
    else if k = i then (if v = Memory.unlisted then m else (k, v) :: m)
    else (i, w) :: Memory.write m k v

/-- Every index is at least `lo`, indexes rise, and no entry holds the unlisted byte. -/
def Memory.wfFrom : Nat → Memory → Bool
  | _, [] => true
  | lo, (i, v) :: m => decide (lo ≤ i) && v != Memory.unlisted && Memory.wfFrom (i + 1) m

/-- The canonical form. -/
def Memory.wf (m : Memory) : Bool := Memory.wfFrom 0 m

/-- Every listed index is below `n`: the array has `n` cells. -/
def Memory.below (n : Nat) (m : Memory) : Bool := m.all fun c => decide (c.1 < n)

/-- The canonical array that reads as `cells` does (the first entry of an index counts). -/
def Memory.ofCells : List Host.Cell → Memory
  | [] => []
  | (k, v) :: cs => Memory.write (Memory.ofCells cs) k v

/-- The array that holds `bytes` from index `k` on. -/
def Memory.ofBytes (k : Nat) : List Byte → Memory
  | [] => []
  | v :: bs => Memory.write (Memory.ofBytes (k + 1) bs) k v

end Sys2Proof.Machine
end

