-- ==== Sys2Proof/Config.lean ====
section
/-! DEFINITION. What an implementation fixes (00_scope R8) and the free values: what the spec
leaves to the oracle `EXT` (20_memory R76). -/

namespace Sys2Proof

/-- `REVISION` (00_scope R8). -/
inductive Revision where
  | dmg | cgb
deriving DecidableEq, Repr

/-- `LAUNCH`: the two launch states (70_reset_and_hazards R392). -/
inductive Launch where
  | cold | postBoot
deriving DecidableEq, Repr

/-- The device identifiers (20_memory R72). -/
inductive DeviceId where
  | cartridge | ramBanks | interruptController | null | bootRom
  | graphics | audio | timer | joypad | serial
deriving DecidableEq, Repr

/-- One registration of the Memory Map: `dev` owns `start` to `start + length - 1`
(20_memory R70). -/
structure Registration where
  dev : DeviceId
  start : Nat
  length : Nat
deriving DecidableEq, Repr

/-- The open parameters a running machine reads, with the defaults of 00_scope R8. `REVISION` has
no default in the spec: DESIGN CHOICE, log 10. -/
structure Params where
  revision : Revision := .dmg
  ramGating : Bool := false
  mbc2Enabled : Bool := false
  haltBug : Bool := false
  nullRead : Byte := 0xFF#8
deriving DecidableEq, Repr

/-- FREE VALUE (log 4). The `n`-th answer of `EXT`: the byte a read of an external device returns,
"any byte, under no law" (20_memory R76). -/
opaque Config.extByte : Nat → DeviceId → Word → Byte

/-- FREE VALUE (log 12). The byte the boot ROM answers at an address beyond its image: one byte per
address, since its reads are idempotent (20_memory R68). -/
opaque Config.bootBeyond : Word → Byte

/-- FREE VALUE (log 5). The `n`-th answer of `EXT` where the bus asks the graphics controller for
`block_source()` (20_memory R105). -/
opaque Config.extBlockSource : Nat → Word

end Sys2Proof
end

