-- ==== Sys2Proof/Machine/MemoryMap.lean ====
section
/-! DEFINITION. The Memory Map (20_memory R70, R75), the device slots (R71) and the ranges of the
boot-ROM overlay (R78). -/

namespace Sys2Proof.Machine

/-- The range of a registration holds the address. -/
def covers (r : Registration) (a : Word) : Bool :=
  decide (r.start ≤ a.toNat) && decide (a.toNat < r.start + r.length)

/-- The slot of `a` after the registrations, oldest first: "the later one owns it"
(20_memory R70, D20). -/
def mapLookup : List Registration → Word → Option DeviceId
  | [], _ => none
  | r :: rs, a =>
    match mapLookup rs a with
    | some d => some d
    | none => if covers r a then some r.dev else none

/-- The default map below the high page (20_memory R75). -/
def defaultMapLow : List Registration :=
  [⟨.cartridge, 0x0000, 0x8000⟩, ⟨.graphics, 0x8000, 0x2000⟩, ⟨.cartridge, 0xA000, 0x2000⟩,
   ⟨.ramBanks, 0xC000, 0x2000⟩, ⟨.ramBanks, 0xE000, 0x1E00⟩, ⟨.graphics, 0xFE00, 0x00A0⟩,
   ⟨.null, 0xFEA0, 0x0060⟩]

/-- The default map of the page 0xFF00 to 0xFFFF (20_memory R75). -/
def defaultMapHigh : List Registration :=
  [⟨.joypad, 0xFF00, 1⟩, ⟨.serial, 0xFF01, 2⟩, ⟨.null, 0xFF03, 1⟩, ⟨.timer, 0xFF04, 4⟩,
   ⟨.null, 0xFF08, 7⟩, ⟨.interruptController, 0xFF0F, 1⟩, ⟨.audio, 0xFF10, 0x30⟩,
   ⟨.graphics, 0xFF40, 0x0C⟩, ⟨.null, 0xFF4C, 3⟩, ⟨.graphics, 0xFF4F, 1⟩, ⟨.null, 0xFF50, 1⟩,
   ⟨.graphics, 0xFF51, 5⟩, ⟨.null, 0xFF56, 0x12⟩, ⟨.graphics, 0xFF68, 4⟩, ⟨.null, 0xFF6C, 0x14⟩,
   ⟨.ramBanks, 0xFF80, 0x7F⟩, ⟨.interruptController, 0xFFFF, 1⟩]

/-- The default value of the parameter `MAP` (20_memory R75). -/
def defaultMap : List Registration := defaultMapLow ++ defaultMapHigh

/-- The slots `build` fills (70_reset_and_hazards R400 step 7): `BootRom` only with a boot image.
DESIGN CHOICE (log 24): where a map names `BootRom` and no image is given, step 7 is followed and the
slot stays empty, though R400 also says that every slot is filled. -/
def builtSlots (withBoot : Bool) : List DeviceId :=
  [.cartridge, .ramBanks, .interruptController, .null, .graphics, .audio, .timer, .joypad, .serial]
    ++ (if withBoot then [.bootRom] else [])

/-- The overlay ranges of the boot ROM (20_memory R78). -/
def inOverlay (rev : Revision) (a : Word) : Bool :=
  match rev with
  | .dmg => decide (a.toNat ≤ 0x00FF)
  | .cgb => decide (a.toNat ≤ 0x00FF) || (decide (0x0200 ≤ a.toNat) && decide (a.toNat ≤ 0x08FF))

/-- An external device: its internals are out of scope (20_memory R76). -/
def isExternal : DeviceId → Bool
  | .graphics | .audio | .timer | .joypad | .serial => true
  | .cartridge | .ramBanks | .interruptController | .null | .bootRom => false

end Sys2Proof.Machine
end

