-- ==== Sys2Proof/Machine/State.lean ====
section
/-! DEFINITION. The machine's whole state as plain data (10_state R20 to R50), the reasons a step
can stop, and the state after reset. -/

namespace Sys2Proof.Machine

/-- Why an image or a save file is malformed (20_memory R110, R113, R114, R133). -/
inductive CartFault where
  | imageTooShort
  | romSizeCode (code : Byte)
  | imageLength
  | ramSizeCode (code : Byte)
  | ramInitLength
deriving DecidableEq, Repr

/-- The fatal records (60_exceptions R361 to R365). `ContractViolation` cannot occur: the types of
the register names rule it out (10_state R29, 60_exceptions R364). -/
inductive Fatal where
  | unmappedAddress (addr : Word)
  | invalidOpcode (pc : Word) (b0 : Byte)
  | deviceMissing (id : DeviceId)
  | unknownCartridgeType (type : Byte)
  | malformedCartridge (reason : CartFault)
deriving DecidableEq, Repr

/-- The Register File (10_state R20, R26, R27). -/
structure RegFile where
  a : Byte
  f : Byte
  b : Byte
  c : Byte
  d : Byte
  e : Byte
  h : Byte
  l : Byte
  sp : Word
  pc : Word
deriving DecidableEq, Repr

/-- The bank controller's variant with its registers (10_state R37, 20_memory R112). -/
inductive Mbc where
  | fixed
  | familyA (ramEnable : Bool) (bankLo : BitVec 5) (bankHi : BitVec 2) (mode : BitVec 1)
  | familyB (ramEnable : Bool) (romBank : BitVec 7) (ramRtcSel : BitVec 8)
  | familyC (ramEnable : Bool) (romBankLo : BitVec 8) (romBankHi : BitVec 1) (ramBank : BitVec 4)
  | mbc2 (ramEnable : Bool) (romBank : BitVec 4)
deriving DecidableEq, Repr

/-- The cartridge: the image, the sizes its header declares, the bank controller, the RAM
(20_memory R110 to R114, 10_state R37). -/
structure Cart where
  rom : Memory
  romBanks : Nat
  ramLen : Nat
  mbc : Mbc
  ram : Memory
deriving DecidableEq, Repr

/-- A byte array of the host's: its length and its bytes. -/
structure Image where
  len : Nat
  cells : Memory
deriving DecidableEq, Repr

/-- The four interrupt sources, in priority order (60_exceptions R341). -/
inductive Source where
  | vblank | stat | timer | serial
deriving DecidableEq, Repr

/-- What arrives from outside at one boundary between two steps (log 7): the sources the peripherals
raise in their tick (60_exceptions R370), and whether the host does `STOP_WAKE`
(70_reset_and_hazards R403). -/
structure Boundary where
  raised : List Source := []
  wake : Bool := false
deriving DecidableEq, Repr

/-- What the core hands to the external devices (20_memory R76, R100, R104 to R106;
60_exceptions R370; log 6). That the pressed buttons are one byte is a DESIGN CHOICE (log 25). -/
inductive ExtEvent where
  | write (d : DeviceId) (a : Word) (v : Byte)
  | spriteTable (i : Nat) (v : Byte)
  | scheduleBlockTransfer (len : Nat)
  | blockWrite (i : Nat) (v : Byte)
  | blockAdvance (len : Nat)
  | markButtons (buttons : Byte)
deriving DecidableEq, Repr

/-- All the spec gives the machine (INVENTORY.md, heading State). -/
structure State where
  regs : RegFile
  ime : Bool
  imeSched : Bool
  halted : Bool
  stopped : Bool
  fatal : Option Fatal
  intEnable : Byte
  intRequest : Byte
  cart : Cart
  wram : Memory
  hram : Memory
  bootRom : Option Image
  bootOverlay : Bool
  map : List Registration
  slots : List DeviceId
  params : Params
  extReads : Nat
  extLog : List ExtEvent
  inputs : List Boundary
  lastCycles : Nat
  haltBugArmed : Bool
deriving DecidableEq, Repr

/-- Why the machine stops. -/
inductive Fault where
  /-- Raised by `step` alone, on a state whose `fatal` is already set: "the machine does not step"
  (60_exceptions R350, R360). No instruction raises it. Safe: no further transition exists. -/
  | alreadyFatal (k : Fatal)
deriving DecidableEq, Repr

/-- What the model gives no meaning. -/
inductive Refusal where
  /-- An arm of `exec` that has no meaning yet; raised by no arm of this model. Safe: the run ends
  there. -/
  | notModelled (mnemonic : String)
deriving DecidableEq, Repr

/-- The cartridge of the blank image: 32 KB, every byte 0x00, whose own header says fixed, 2 banks,
no RAM (20_memory R112 to R114; log 2). -/
def Cart.blank : Cart := { rom := [], romBanks := 2, ramLen := 0, mbc := .fixed, ram := [] }

/-- The machine right after reset: 10_state R50, launch state `cold`, the parameters at their
defaults, no boot ROM, the blank cartridge (log 2, log 10). -/
def State.reset : State where
  regs := { a := 0x00#8, f := 0x00#8, b := 0x00#8, c := 0x00#8, d := 0x00#8, e := 0x00#8,
            h := 0x00#8, l := 0x00#8, sp := 0x0000#16, pc := 0x0000#16 }
  ime := false
  imeSched := false
  halted := false
  stopped := false
  fatal := none
  intEnable := 0x00#8
  intRequest := 0x00#8
  cart := Cart.blank
  wram := []
  hram := []
  bootRom := none
  bootOverlay := false
  map := defaultMap
  slots := builtSlots false
  params := {}
  extReads := 0
  extLog := []
  inputs := []
  lastCycles := 0
  haltBugArmed := false

end Sys2Proof.Machine
end

