-- ==== Sys2Proof/Machine/Cartridge.lean ====
section
/-! DEFINITION. The cartridge and its bank controllers (20_memory R110 to R136). -/

namespace Sys2Proof.Machine

/-- The value of a control write that sets the RAM enable latch: low nibble 0xA (20_memory R118). -/
def enables (v : Byte) : Bool := v &&& 0x0F#8 == 0x0A#8

/-- `Control(a, v)`, a write to 0x0000-0x7FFF: the registers after it. One function of the quadrant
per variant (20_memory R116, R118, R120, R124, R126). -/
def Mbc.control (m : Mbc) (a : Word) (v : Byte) : Mbc :=
  match m with
  | .fixed => .fixed
  | .familyA en lo hi mode =>
    if a.toNat ≤ 0x1FFF then .familyA (enables v) lo hi mode
    else if a.toNat ≤ 0x3FFF then .familyA en (v.setWidth 5) hi mode
    else if a.toNat ≤ 0x5FFF then .familyA en lo (v.setWidth 2) mode
    else .familyA en lo hi (v.setWidth 1)
  | .familyB en bank sel =>
    if a.toNat ≤ 0x1FFF then .familyB (enables v) bank sel
    else if a.toNat ≤ 0x3FFF then .familyB en (v.setWidth 7) sel
    else if a.toNat ≤ 0x5FFF then .familyB en bank v
    else .familyB en bank sel
  | .familyC en lo hi ram =>
    if a.toNat ≤ 0x1FFF then .familyC (enables v) lo hi ram
    else if a.toNat ≤ 0x2FFF then .familyC en v hi ram
    else if a.toNat ≤ 0x3FFF then .familyC en lo (v.setWidth 1) ram
    else if a.toNat ≤ 0x5FFF then .familyC en lo hi (v.setWidth 4)
    else .familyC en lo hi ram
  | .mbc2 en bank =>
    if a.toNat ≤ 0x3FFF then
      (if a.getLsbD 8 then .mbc2 en (v.setWidth 4) else .mbc2 (enables v) bank)
    else .mbc2 en bank

/-- `rom_bank()` of a cartridge with `romBanks` banks (20_memory R116, R117, R121, R125, R126). -/
def Mbc.romBank (m : Mbc) (romBanks : Nat) : Nat :=
  match m with
  | .fixed => 1
  | .familyA _ lo hi mode =>
    let sel := if mode == 0#1 then hi.toNat * 32 + lo.toNat else lo.toNat
    let sel := if sel = 0x00 ∨ sel = 0x20 ∨ sel = 0x40 ∨ sel = 0x60 then sel + 1 else sel
    sel % romBanks
  | .familyB _ bank _ => (if bank == 0#7 then 1 else bank.toNat) % romBanks
  | .familyC _ lo hi _ => (hi.toNat * 256 + lo.toNat) % romBanks
  | .mbc2 _ bank => (if bank == 0#4 then 1 else bank.toNat) % romBanks

/-- `ram_bank()` (20_memory R116, R117, R121, R125); MBC2 has no RAM bank (R126). -/
def Mbc.ramBank (m : Mbc) : Nat :=
  match m with
  | .fixed => 0
  | .familyA _ _ hi mode => if mode == 1#1 then hi.toNat else 0
  | .familyB _ _ sel => (sel &&& 0x03#8).toNat
  | .familyC _ _ _ bank => bank.toNat
  | .mbc2 _ _ => 0

/-- The enable latch is off; the fixed variant has no latch, so nothing gates it (20_memory R116,
R129). -/
def Mbc.latchOff (m : Mbc) : Bool :=
  match m with
  | .fixed => false
  | .familyA en _ _ _ => !en
  | .familyB en _ _ => !en
  | .familyC en _ _ _ => !en
  | .mbc2 en _ => !en

/-- Family B with the selector in the clock registers' range (20_memory R123). -/
def Mbc.clockSelected (m : Mbc) : Bool :=
  match m with
  | .familyB _ _ sel => decide (sel.toNat > 0x03)
  | .fixed | .familyA _ _ _ _ | .familyC _ _ _ _ | .mbc2 _ _ => false

/-- The variant is MBC2, whose RAM cells keep four bits (20_memory R126). -/
def Mbc.isMbc2 (m : Mbc) : Bool :=
  match m with
  | .mbc2 _ _ => true
  | .fixed | .familyA _ _ _ _ | .familyB _ _ _ | .familyC _ _ _ _ => false

/-- The index into `cart_ram` behind an address of the RAM window (20_memory R126, R128). -/
def Cart.ramIndex (c : Cart) (a : Word) : Nat :=
  if c.mbc.isMbc2 then (a.toNat - 0xA000) % 512
  else (c.mbc.ramBank * 0x2000 + (a.toNat - 0xA000)) % c.ramLen

/-- `RamRead(a)` (20_memory R126, R128, R129). -/
def Cart.ramRead (p : Params) (c : Cart) (a : Word) : Byte :=
  if c.mbc.clockSelected then 0x00#8
  else if c.ramLen = 0 then p.nullRead
  else if p.ramGating && c.mbc.latchOff then 0xFF#8
  else if c.mbc.isMbc2 then 0xF0#8 ||| (c.ram.read (c.ramIndex a) &&& 0x0F#8)
  else c.ram.read (c.ramIndex a)

/-- `RamWrite(a, v)` (20_memory R126, R128, R129). -/
def Cart.ramWrite (p : Params) (c : Cart) (a : Word) (v : Byte) : Cart :=
  if c.mbc.clockSelected then c
  else if c.ramLen = 0 then c
  else if p.ramGating && c.mbc.latchOff then c
  else if c.mbc.isMbc2 then { c with ram := c.ram.write (c.ramIndex a) (v &&& 0x0F#8) }
  else { c with ram := c.ram.write (c.ramIndex a) v }

/-- The image offset behind an address of the ROM area (20_memory R115, R127). -/
def Cart.romOffset (c : Cart) (a : Word) : Nat :=
  if a.toNat ≤ 0x3FFF then a.toNat
  else c.mbc.romBank c.romBanks * 0x4000 + (a.toNat - 0x4000)

/-- A ROM address of the cartridge (20_memory R115). -/
def inRomArea (a : Word) : Bool := decide (a.toNat ≤ 0x7FFF)

/-- The RAM window (20_memory R128). -/
def inRamWindow (a : Word) : Bool := decide (0xA000 ≤ a.toNat) && decide (a.toNat ≤ 0xBFFF)

/-- `Cartridge.get8(a)`; `none` at an address the cartridge does not own (20_memory R115; log 11). -/
def Cart.get8 (p : Params) (c : Cart) (a : Word) : Option Byte :=
  if inRomArea a then some (c.rom.read (c.romOffset a))
  else if inRamWindow a then some (c.ramRead p a)
  else none

/-- `Cartridge.set8(a, v)`; `none` at an address the cartridge does not own (20_memory R115; log 11).
The image never changes (R136). -/
def Cart.set8 (p : Params) (c : Cart) (a : Word) (v : Byte) : Option Cart :=
  if inRomArea a then some { c with mbc := c.mbc.control a v }
  else if inRamWindow a then some (c.ramWrite p a v)
  else none

end Sys2Proof.Machine
end

