-- ==== Sys2Proof/Machine/Flags.lean ====
section
/-! DEFINITION. The flag register (10_state R23 to R25) and every flag computation the spec gives
(42_alu8 R230, R243; 43_alu16 R270, R271, R274; 44_rotate_shift_bit R281 to R293). -/

namespace Sys2Proof.Machine

/-- `F.Z`, bit 7 (10_state R23). -/
def State.flagZ (s : State) : Bool := s.regs.f.getLsbD 7
/-- `F.N`, bit 6 (10_state R23). -/
def State.flagN (s : State) : Bool := s.regs.f.getLsbD 6
/-- `F.H`, bit 5 (10_state R23). -/
def State.flagH (s : State) : Bool := s.regs.f.getLsbD 5
/-- `F.C`, bit 4 (10_state R23). -/
def State.flagC (s : State) : Bool := s.regs.f.getLsbD 4

/-- What a write of `F` stores: the low nibble is always 0 (10_state R24). -/
def maskF (v : Byte) : Byte := v &&& 0xF0#8

/-- `x[F] <- v` (10_state R24). -/
def State.setF (s : State) (v : Byte) : State := { s with regs := { s.regs with f := maskF v } }

/-- The byte with the flags `z n h c` in bits 7 to 4 and a zero low nibble (10_state R25). -/
def packFlags (z n h c : Bool) : Byte :=
  BitVec.ofBool z ++ BitVec.ofBool n ++ BitVec.ofBool h ++ BitVec.ofBool c ++ 0#4

/-- `flags(z, n, h, c)` (10_state R25). -/
def State.setFlags (s : State) (z n h c : Bool) : State := s.setF (packFlags z n h c)

/-- The result of an 8-bit operation with its four flags. -/
structure AluResult where
  r : Byte
  z : Bool
  n : Bool
  h : Bool
  c : Bool
deriving DecidableEq, Repr

/-- `add8(a, v, ci)` (42_alu8 R230). -/
def add8 (a v : Byte) (ci : Bool) : AluResult :=
  let s := a.toNat + v.toNat + ci.toNat
  let r := BitVec.ofNat 8 s
  { r := r, z := r == 0#8, n := false,
    h := decide (a.toNat % 16 + v.toNat % 16 + ci.toNat > 0x0F), c := decide (s > 0xFF) }

/-- `sub8(a, v, ci)` (42_alu8 R230). -/
def sub8 (a v : Byte) (ci : Bool) : AluResult :=
  let r := BitVec.ofInt 8 ((a.toNat : Int) - v.toNat - ci.toNat)
  { r := r, z := r == 0#8, n := true,
    h := decide (a.toNat % 16 < v.toNat % 16 + ci.toNat),
    c := decide (a.toNat < v.toNat + ci.toNat) }

/-- `AND` (42_alu8 R235). -/
def and8 (a v : Byte) : AluResult :=
  { r := a &&& v, z := a &&& v == 0#8, n := false, h := true, c := false }

/-- `XOR` (42_alu8 R236). -/
def xor8 (a v : Byte) : AluResult :=
  { r := a ^^^ v, z := a ^^^ v == 0#8, n := false, h := false, c := false }

/-- `OR` (42_alu8 R237). -/
def or8 (a v : Byte) : AluResult :=
  { r := a ||| v, z := a ||| v == 0#8, n := false, h := false, c := false }

/-- The increment of `INC r`, `INC (HL)`; `c` is the carry, which stays (42_alu8 R239). -/
def inc8 (v : Byte) (c : Bool) : AluResult :=
  { r := v + 1#8, z := v + 1#8 == 0#8, n := false, h := v &&& 0x0F#8 == 0x0F#8, c := c }

/-- The decrement of `DEC r`, `DEC (HL)`; `c` is the carry, which stays (42_alu8 R241). -/
def dec8 (v : Byte) (c : Bool) : AluResult :=
  { r := v - 1#8, z := v - 1#8 == 0#8, n := true, h := v &&& 0x0F#8 == 0x00#8, c := c }

/-- `DAA` with the flags before it (42_alu8 R243). -/
def daa8 (a : Byte) (n h c : Bool) : AluResult :=
  let up := !n && (c || decide (a.toNat > 0x99))
  let low := !n && (h || decide (a.toNat % 16 > 0x09))
  let plus := (if up then 0x60#8 else 0x00#8) + (if low then 0x06#8 else 0x00#8)
  let minus := (if n && c then 0x60#8 else 0x00#8) + (if n && h then 0x06#8 else 0x00#8)
  let r := a + plus - minus
  { r := r, z := r == 0#8, n := n, h := false, c := c || up }

/-- A result of the rotate and shift group: `Z` from the result, `N = H = 0` (44_rotate_shift_bit,
head of R285). -/
def shiftResult (r : Byte) (c : Bool) : AluResult :=
  { r := r, z := r == 0#8, n := false, h := false, c := c }

/-- The eight generic rotates and shifts; `ci` is `F.C` before (44_rotate_shift_bit R285 to R292). -/
def rot8 (op : RotOp) (v : Byte) (ci : Bool) : AluResult :=
  match op with
  | .rlc => shiftResult ((v <<< 1) ||| BitVec.setWidth 8 (BitVec.ofBool (v.getLsbD 7))) (v.getLsbD 7)
  | .rrc =>
    shiftResult ((v >>> 1) ||| (BitVec.setWidth 8 (BitVec.ofBool (v.getLsbD 0)) <<< 7)) (v.getLsbD 0)
  | .rl => shiftResult ((v <<< 1) ||| BitVec.setWidth 8 (BitVec.ofBool ci)) (v.getLsbD 7)
  | .rr => shiftResult ((v >>> 1) ||| (BitVec.setWidth 8 (BitVec.ofBool ci) <<< 7)) (v.getLsbD 0)
  | .sla => shiftResult (v <<< 1) (v.getLsbD 7)
  | .sra => shiftResult ((v >>> 1) ||| (v &&& 0x80#8)) (v.getLsbD 0)
  | .swap => shiftResult ((v <<< 4) ||| (v >>> 4)) false
  | .srl => shiftResult (v >>> 1) (v.getLsbD 0)

/-- The eight accumulator operations; `ci` is `F.C` before. `CP` computes what `SUB` does
(42_alu8 R231 to R238). -/
def alu8 (op : AluOp) (a v : Byte) (ci : Bool) : AluResult :=
  match op with
  | .add => add8 a v false
  | .adc => add8 a v ci
  | .sub => sub8 a v false
  | .sbc => sub8 a v ci
  | .and => and8 a v
  | .xor => xor8 a v
  | .or => or8 a v
  | .cp => sub8 a v false

/-- Carry out of bit 11 of a 16-bit sum (43_alu16 R271). -/
def halfCarry16 (a v : Word) : Bool := decide (a.toNat % 0x1000 + v.toNat % 0x1000 > 0x0FFF)

/-- Carry out of bit 15 of a 16-bit sum (43_alu16 R271). -/
def carry16 (a v : Word) : Bool := decide (a.toNat + v.toNat > 0xFFFF)

/-- The half-carry of `SP` plus a raw offset byte: carry out of bit 3 (41_load16 R214,
43_alu16 R274). -/
def halfCarrySp (s : Word) (e : Byte) : Bool := decide (s.toNat % 16 + e.toNat % 16 > 0x0F)

/-- The carry of `SP` plus a raw offset byte: carry out of bit 7 (41_load16 R214, 43_alu16 R274). -/
def carrySp (s : Word) (e : Byte) : Bool := decide (s.toNat % 256 + e.toNat > 0xFF)

end Sys2Proof.Machine
end

