-- ==== Sys2Proof/Machine/Ops.lean ====
section
/-! DEFINITION. The named operations over registers and memory: what an operation can do, the
register file, the program counter, the Memory Bus with its devices and intercepts, the stack,
taking an interrupt and returning from one. -/

namespace Sys2Proof.Machine

/-- What executing or stepping answers. -/
abbrev Out := Host.Outcome State Fault Refusal

/-! ### What an operation can do -/

/-- An operation ends with a value, or raises a fatal condition; the state holds what was written
before that point (00_scope R10, 60_exceptions R360). -/
inductive Eff (α : Type) where
  | done (v : α) (s : State)
  | raise (k : Fatal) (s : State)
deriving DecidableEq, Repr

/-- One operation after another: "the lines after a raise are not executed" (40_load8 R180). -/
def Eff.bind {α β : Type} (x : Eff α) (f : α → State → Eff β) : Eff β :=
  match x with
  | .done v s => f v s
  | .raise k s => .raise k s

/-- Entering the fatal state (60_exceptions R360). -/
def State.raised (s : State) (k : Fatal) : State := { s with fatal := some k }

/-- The last line of a rule: the rest of the effect, or the fatal state, `pc` as it was (log 1). -/
def Eff.andThen {α : Type} (x : Eff α) (f : α → State → State) : Out :=
  match x with
  | .done v s => .next (f v s)
  | .raise k s => .next (s.raised k)

/-! ### The register file -/

/-- `x[r]` (10_state R20). -/
def State.getReg (s : State) (r : Reg8) : Byte :=
  match r with
  | .b => s.regs.b
  | .c => s.regs.c
  | .d => s.regs.d
  | .e => s.regs.e
  | .h => s.regs.h
  | .l => s.regs.l
  | .a => s.regs.a

/-- The register file after `x[r] <- v` (10_state R20). -/
def RegFile.set (g : RegFile) (r : Reg8) (v : Byte) : RegFile :=
  match r with
  | .b => { g with b := v }
  | .c => { g with c := v }
  | .d => { g with d := v }
  | .e => { g with e := v }
  | .h => { g with h := v }
  | .l => { g with l := v }
  | .a => { g with a := v }

/-- `x[r] <- v` (10_state R20). -/
def State.setReg (s : State) (r : Reg8) (v : Byte) : State := { s with regs := s.regs.set r v }

/-- `x[BC]` (10_state R21). -/
def State.bc (s : State) : Word := join s.regs.b s.regs.c
/-- `x[DE]` (10_state R21). -/
def State.de (s : State) : Word := join s.regs.d s.regs.e
/-- `x[HL]` (10_state R21). -/
def State.hl (s : State) : Word := join s.regs.h s.regs.l
/-- `x[AF]` (10_state R21). -/
def State.af (s : State) : Word := join s.regs.a s.regs.f

/-- `x[SP] <- v` (10_state R26). -/
def State.setSp (s : State) (v : Word) : State := { s with regs := { s.regs with sp := v } }

/-- `pc <- v` (10_state R27). -/
def State.setPc (s : State) (v : Word) : State := { s with regs := { s.regs with pc := v } }

/-- `x[rr]` (10_state R21, R26). -/
def State.getPair (s : State) (rr : Reg16) : Word :=
  match rr with
  | .bc => s.bc
  | .de => s.de
  | .hl => s.hl
  | .sp => s.regs.sp

/-- `x[rr] <- v`: high half first, then low half (10_state R22, R26). -/
def State.setPair (s : State) (rr : Reg16) (v : Word) : State :=
  match rr with
  | .bc => (s.setReg .b (hiByte v)).setReg .c (loByte v)
  | .de => (s.setReg .d (hiByte v)).setReg .e (loByte v)
  | .hl => (s.setReg .h (hiByte v)).setReg .l (loByte v)
  | .sp => s.setSp v

/-- `x[qq]` (10_state R21). -/
def State.getStackReg (s : State) (qq : StackReg) : Word :=
  match qq with
  | .bc => s.bc
  | .de => s.de
  | .hl => s.hl
  | .af => s.af

/-- `x[qq] <- v`; the low half of `AF` goes through 10_state R24 (10_state R22). -/
def State.setStackReg (s : State) (qq : StackReg) (v : Word) : State :=
  match qq with
  | .bc => s.setPair .bc v
  | .de => s.setPair .de v
  | .hl => s.setPair .hl v
  | .af => (s.setReg .a (hiByte v)).setF (loByte v)

/-! ### The program counter and the end of an instruction -/

/-- `next`, the address of the following instruction (10_state R28). With the `HALT` bug armed the
`pc` was not advanced past the first byte (46_cpu_control R332; log 9). -/
def State.next (s : State) (len : Nat) : Word :=
  s.regs.pc + BitVec.ofNat 16 len - (if s.haltBugArmed then 1#16 else 0#16)

/-- A rule that redirects control flow ends: `pc <- target`, `return cycles` (10_state R28). -/
def State.jump (s : State) (target : Word) (cycles : Nat) : State :=
  { s.setPc target with lastCycles := cycles, haltBugArmed := false }

/-- A rule that does not write `pc` ends: `pc <- next`, `return cycles` (10_state R28, 00_scope R11). -/
def State.finish (s : State) (len cycles : Nat) : State := s.jump (s.next len) cycles

/-! ### The Memory Bus and its devices -/

/-- The answer of `EXT` to a read of device `d` (20_memory R76; log 4). -/
def extGet8 (d : DeviceId) (a : Word) (s : State) : Eff Byte :=
  .done (Config.extByte s.extReads d a) { s with extReads := s.extReads + 1 }

/-- The record of what an external device is handed (20_memory R76; log 6). -/
def State.logExt (s : State) (e : ExtEvent) : State := { s with extLog := e :: s.extLog }

/-- The array and index behind an address of the RAM banks (20_memory R77). -/
def wramIndex (a : Word) : Option Nat :=
  if 0xC000 ≤ a.toNat ∧ a.toNat ≤ 0xDFFF then some (a.toNat - 0xC000)
  else if 0xE000 ≤ a.toNat ∧ a.toNat ≤ 0xFDFF then some (a.toNat - 0xE000)
  else none

/-- The index into `hram` (20_memory R77). -/
def hramIndex (a : Word) : Option Nat :=
  if 0xFF80 ≤ a.toNat ∧ a.toNat ≤ 0xFFFE then some (a.toNat - 0xFF80) else none

/-- `RamBanks.get8(a)` (20_memory R77; an address it does not own: log 11). -/
def ramBanksGet8 (s : State) (a : Word) : Option Byte :=
  match wramIndex a with
  | some i => some (s.wram.read i)
  | none =>
    match hramIndex a with
    | some i => some (s.hram.read i)
    | none => none

/-- `RamBanks.set8(a, v)` (20_memory R77; an address it does not own: log 11). -/
def ramBanksSet8 (s : State) (a : Word) (v : Byte) : Option State :=
  match wramIndex a with
  | some i => some { s with wram := s.wram.write i v }
  | none =>
    match hramIndex a with
    | some i => some { s with hram := s.hram.write i v }
    | none => none

/-- `InterruptController.get8(a)` (60_exceptions R346). -/
def interruptGet8 (s : State) (a : Word) : Option Byte :=
  if a = 0xFFFF#16 then some s.intEnable
  else if a = 0xFF0F#16 then some s.intRequest
  else none

/-- `InterruptController.set8(a, v)` (60_exceptions R346). -/
def interruptSet8 (s : State) (a : Word) (v : Byte) : Option State :=
  if a = 0xFFFF#16 then some { s with intEnable := v }
  else if a = 0xFF0F#16 then some { s with intRequest := v }
  else none

/-- The boot image's byte for `a` (20_memory R78); beyond its length a free byte, the same at every
read (R68; log 12). -/
def bootByte (s : State) (a : Word) : Byte :=
  match s.bootRom with
  | none => Config.bootBeyond a
  | some img => if a.toNat < img.len then img.cells.read a.toNat else Config.bootBeyond a

/-- `dev.get8(a)` of the device `d` (20_memory R74). A device handed an address it does not own
raises `UnmappedAddress(a)` (60_exceptions R361; log 11). DESIGN CHOICE (log 26): the boot ROM owns every
address that routes to it, also one that a given map names outside the overlay ranges or with the overlay
off. -/
def deviceGet8 (d : DeviceId) (a : Word) (s : State) : Eff Byte :=
  match d with
  | .cartridge =>
    match s.cart.get8 s.params a with
    | some v => .done v s
    | none => .raise (.unmappedAddress a) s
  | .ramBanks =>
    match ramBanksGet8 s a with
    | some v => .done v s
    | none => .raise (.unmappedAddress a) s
  | .interruptController =>
    match interruptGet8 s a with
    | some v => .done v s
    | none => .raise (.unmappedAddress a) s
  | .null => .done s.params.nullRead s
  | .bootRom => .done (bootByte s a) s
  | .graphics => extGet8 .graphics a s
  | .audio => extGet8 .audio a s
  | .timer => extGet8 .timer a s
  | .joypad => extGet8 .joypad a s
  | .serial => extGet8 .serial a s

/-- `dev.set8(a, v)` of the device `d` (20_memory R73, R74, R76, R78). The boot ROM owns every address that
routes to it: DESIGN CHOICE, log 26. -/
def deviceSet8 (d : DeviceId) (a : Word) (v : Byte) (s : State) : Eff Unit :=
  match d with
  | .cartridge =>
    match s.cart.set8 s.params a v with
    | some c => .done () { s with cart := c }
    | none => .raise (.unmappedAddress a) s
  | .ramBanks =>
    match ramBanksSet8 s a v with
    | some t => .done () t
    | none => .raise (.unmappedAddress a) s
  | .interruptController =>
    match interruptSet8 s a v with
    | some t => .done () t
    | none => .raise (.unmappedAddress a) s
  | .null => .done () s
  | .bootRom => .done () s
  | .graphics => .done () (s.logExt (.write .graphics a v))
  | .audio => .done () (s.logExt (.write .audio a v))
  | .timer => .done () (s.logExt (.write .timer a v))
  | .joypad => .done () (s.logExt (.write .joypad a v))
  | .serial => .done () (s.logExt (.write .serial a v))

/-- `Map.get_id(a)`: the overlay first, then the map (20_memory R70, R78). -/
def State.getId (s : State) (a : Word) : Option DeviceId :=
  if s.bootOverlay && inOverlay s.params.revision a then some .bootRom else mapLookup s.map a

/-- The device that answers at `a`, or the fatal condition of the routing: no owner
(20_memory R70), or an empty slot (R71). -/
def State.route (s : State) (a : Word) : Except Fatal DeviceId :=
  match s.getId a with
  | none => .error (.unmappedAddress a)
  | some d => if s.slots.contains d then .ok d else .error (.deviceMissing d)

/-- `Bus.get8(a)` (20_memory R60). -/
def busRead (a : Word) (s : State) : Eff Byte :=
  match s.route a with
  | .ok d => deviceGet8 d a s
  | .error k => .raise k s

/-- Copy `n` bytes read through the bus at `src + i, …`, ascending, handing each to the graphics
controller as the event `ev` makes of it (20_memory R100, R105). A fatal read ends the copy
part-way (R101). -/
def dmaCopy (src : Word) (ev : Nat → Byte → ExtEvent) : Nat → Nat → State → Eff Unit
  | 0, _, s => .done () s
  | n + 1, i, s =>
    (busRead (src + BitVec.ofNat 16 i) s).bind fun v t => dmaCopy src ev n (i + 1) (t.logExt (ev i v))

/-- `SpriteDma(b)`: 160 bytes from `b << 8` (20_memory R100). -/
def spriteDma (b : Byte) (s : State) : Eff Unit := dmaCopy (join b 0x00#8) .spriteTable 160 0 s

/-- `((b & 0x7F) + 1) * 16` (20_memory R104). -/
def blockLength (b : Byte) : Nat := (b.toNat % 128 + 1) * 16

/-- `SyncBlockTransfer(len)` (20_memory R105; the source address is the oracle's, log 5). -/
def syncBlockTransfer (len : Nat) (s : State) : Eff Unit :=
  (dmaCopy (Config.extBlockSource s.extReads) .blockWrite len 0
      { s with extReads := s.extReads + 1 }).bind
    fun _ t => .done () (t.logExt (.blockAdvance len))

/-- `VramBlockTransfer(b)` (20_memory R104, R106). -/
def vramBlockTransfer (b : Byte) (s : State) : Eff Unit :=
  if b.getLsbD 7 then .done () (s.logExt (.scheduleBlockTransfer (blockLength b)))
  else syncBlockTransfer (blockLength b) s

/-- `BootDisable(v)` (20_memory R78). -/
def bootDisable (v : Byte) (s : State) : State :=
  if v.getLsbD 0 then { s with bootOverlay := false } else s

/-- The intercepted addresses (20_memory R61, 10_state R48). -/
inductive Intercept where
  | spriteDma | blockTransfer | bootDisable
deriving DecidableEq, Repr

/-- Which write addresses the bus intercepts (20_memory R61, R104). -/
def intercept (rev : Revision) (a : Word) : Option Intercept :=
  if a = 0xFF46#16 then some .spriteDma
  else if a = 0xFF55#16 ∧ rev = .cgb then some .blockTransfer
  else if a = 0xFF50#16 then some .bootDisable
  else none

/-- `Bus.set8(a, v)`; an intercepted write is not forwarded (20_memory R61). -/
def busWrite (a : Word) (v : Byte) (s : State) : Eff Unit :=
  match intercept s.params.revision a with
  | some .spriteDma => spriteDma v s
  | some .blockTransfer => vramBlockTransfer v s
  | some .bootDisable => .done () (bootDisable v s)
  | none =>
    match s.route a with
    | .ok d => deviceSet8 d a v s
    | .error k => .raise k s

/-- `Bus.get16(a)`: the byte at `a + 1` first (20_memory R62). -/
def busRead16 (a : Word) (s : State) : Eff Word :=
  (busRead (a + 1#16) s).bind fun hi t => (busRead a t).bind fun lo u => .done (join hi lo) u

/-- `Bus.set16(a, v)`: the byte at `a + 1` first (20_memory R63). -/
def busWrite16 (a : Word) (v : Word) (s : State) : Eff Unit :=
  (busWrite (a + 1#16) (hiByte v) s).bind fun _ t => busWrite a (loByte v) t

/-- `Bus.get_slice(a, n)`: `n` byte reads, ascending (20_memory R64). -/
def busSlice (a : Word) : Nat → State → Eff (List Byte)
  | 0, s => .done [] s
  | n + 1, s =>
    (busRead a s).bind fun v t => (busSlice (a + 1#16) n t).bind fun vs u => .done (v :: vs) u

/-! ### The stack -/

/-- `push16(v)` (41_load16 R210). -/
def push16 (v : Word) (s : State) : Eff Unit :=
  let s1 := s.setSp (s.regs.sp - 1#16)
  (busWrite s1.regs.sp (hiByte v) s1).bind fun _ t =>
    let t1 := t.setSp (t.regs.sp - 1#16)
    busWrite t1.regs.sp (loByte v) t1

/-- `pop16()` (41_load16 R210). -/
def pop16 (s : State) : Eff Word :=
  (busRead16 s.regs.sp s).bind fun v t => .done v (t.setSp (t.regs.sp + 2#16))

/-! ### Interrupts -/

/-- The bit number of a source (60_exceptions R341). -/
def Source.bit : Source → Nat
  | .vblank => 0
  | .stat => 1
  | .timer => 2
  | .serial => 3

/-- The mask with the source's bit alone. -/
def Source.mask (i : Source) : Byte := 1#8 <<< i.bit

/-- The handler address (60_exceptions R344). -/
def Source.handler (i : Source) : Word := BitVec.ofNat 16 (0x0040 + 8 * i.bit)

/-- `pending_mask()` (60_exceptions R342). -/
def State.pendingMask (s : State) : Byte := s.intEnable &&& s.intRequest &&& 0x0F#8

/-- `pending()`: the least bit set in both masks (60_exceptions R342). -/
def State.pending (s : State) : Option Source :=
  if s.pendingMask.getLsbD 0 then some .vblank
  else if s.pendingMask.getLsbD 1 then some .stat
  else if s.pendingMask.getLsbD 2 then some .timer
  else if s.pendingMask.getLsbD 3 then some .serial
  else none

/-- `request(i)` (60_exceptions R343). -/
def State.request (s : State) (i : Source) : State :=
  { s with intRequest := s.intRequest ||| i.mask }

/-- `IF <- IF & ~(1 << i) & 0xFF` (60_exceptions R345, R353). -/
def State.clearRequest (s : State) (i : Source) : State :=
  { s with intRequest := s.intRequest &&& ~~~ i.mask }

/-- `handle(should_clear)` (60_exceptions R345). -/
def State.handle (s : State) (shouldClear : Bool) : Option Word × State :=
  match s.pending with
  | none => (none, s)
  | some p => (some p.handler, if shouldClear then s.clearRequest p else s)

/-- Taking an interrupt, before the push: the request is cleared, the gate closed, the core awake
(60_exceptions R353; the optional latch of the `HALT` bug: log 9). -/
def State.enterHandler (s : State) (p : Source) : State :=
  { s.clearRequest p with ime := false, imeSched := false, halted := false, haltBugArmed := false }

/-- `dispatch(p)` (60_exceptions R353): `INT_DISPATCH_CYCLES` is 5. -/
def dispatch (p : Source) (s : State) : Out :=
  (push16 s.regs.pc (s.enterHandler p)).andThen fun _ t => t.jump p.handler 5

/-- The return from a handler (45_control_flow R320, 60_exceptions R355). -/
def returnFromInterrupt (s : State) : Out :=
  (pop16 s).andThen fun v t => { t.jump v 4 with ime := true }

/-- Executing an invalid primary byte (46_cpu_control R336, 60_exceptions R362). -/
def invalidOpcode (b0 : Byte) (s : State) : Out := .next (s.raised (.invalidOpcode s.regs.pc b0))

end Sys2Proof.Machine
end

