-- ==== Sys2Proof/Machine/Operands.lean ====
section
/-! DEFINITION. The operand forms (30_encoding R153, R155; 44_rotate_shift_bit R280) and the
conditions (45_control_flow R310). -/

namespace Sys2Proof.Machine

/-- `rd_t()`: a register, or the byte at `x[HL]` (44_rotate_shift_bit R280, 42_alu8 R230). -/
def readLoc (x : Loc) (s : State) : Eff Byte :=
  match x with
  | .reg r => .done (s.getReg r) s
  | .atHl => busRead s.hl s

/-- `wr_t(v)` (44_rotate_shift_bit R280). -/
def writeLoc (x : Loc) (v : Byte) (s : State) : Eff Unit :=
  match x with
  | .reg r => .done () (s.setReg r v)
  | .atHl => busWrite s.hl v s

/-- Read an operand, write `f` of it back, with nothing between the two accesses
(20_memory R67, 44_rotate_shift_bit R280). The value is the one read. -/
def modifyLoc (x : Loc) (f : Byte → Byte) (s : State) : Eff Byte :=
  (readLoc x s).bind fun v t => (writeLoc x (f v) t).bind fun _ u => .done v u

/-- A cost that differs between the register forms and the `(HL)` form of a family. -/
def locCost (x : Loc) (reg atHl : Nat) : Nat :=
  match x with
  | .reg _ => reg
  | .atHl => atHl

/-- The zero-page address `0xFF00 + n` (30_encoding R150). -/
def zeroPage (n : Byte) : Word := 0xFF00#16 + zext16 n

/-- `cond(cc)`, read from the current flags (45_control_flow R310). -/
def State.cond (s : State) (cc : Cond) : Bool :=
  match cc with
  | .nz => !s.flagZ
  | .z => s.flagZ
  | .nc => !s.flagC
  | .c => s.flagC

/-- The target of a relative jump: the following instruction's address plus the signed offset
(45_control_flow R314). -/
def State.relative (s : State) (e : Byte) : Word := s.next 2 + sext16 e

/-- `SP` plus a signed offset byte (30_encoding R151). -/
def State.spPlus (s : State) (e : Byte) : Word := s.regs.sp + sext16 e

/-- The result and flags of an 8-bit operation into the accumulator. -/
def State.setAlu (s : State) (x : AluResult) : State := (s.setReg .a x.r).setFlags x.z x.n x.h x.c

/-- The flags alone of an 8-bit operation. -/
def State.setAluFlags (s : State) (x : AluResult) : State := s.setFlags x.z x.n x.h x.c

end Sys2Proof.Machine
end

