-- ==== Sys2Proof/Machine/Alu16.lean ====
section
/-! DEFINITION. 16-bit arithmetic (43_alu16 R270 to R274). -/

namespace Sys2Proof.Machine

/-- `ADD HL,rr` (43_alu16 R271): `Z` stays. -/
def addHl (rr : Reg16) (s : State) : Out :=
  .next (((s.setPair .hl (s.hl + s.getPair rr)).setFlags s.flagZ false
    (halfCarry16 s.hl (s.getPair rr)) (carry16 s.hl (s.getPair rr))).finish 1 2)

/-- `INC rr` (43_alu16 R272): no flag changes. -/
def incPair (rr : Reg16) (s : State) : Out := .next ((s.setPair rr (s.getPair rr + 1#16)).finish 1 2)

/-- `DEC rr` (43_alu16 R273): no flag changes. -/
def decPair (rr : Reg16) (s : State) : Out := .next ((s.setPair rr (s.getPair rr - 1#16)).finish 1 2)

/-! ### One meaning per instruction -/

/-- `INC BC` (43_alu16 R272). -/
def execIncBc (s : State) : Out := incPair .bc s
/-- `ADD HL,BC` (43_alu16 R271). -/
def execAddHlBc (s : State) : Out := addHl .bc s
/-- `DEC BC` (43_alu16 R273). -/
def execDecBc (s : State) : Out := decPair .bc s
/-- `INC DE` (43_alu16 R272). -/
def execIncDe (s : State) : Out := incPair .de s
/-- `ADD HL,DE` (43_alu16 R271). -/
def execAddHlDe (s : State) : Out := addHl .de s
/-- `DEC DE` (43_alu16 R273). -/
def execDecDe (s : State) : Out := decPair .de s
/-- `INC HL` (43_alu16 R272). -/
def execIncHl (s : State) : Out := incPair .hl s
/-- `ADD HL,HL` (43_alu16 R271). -/
def execAddHlHl (s : State) : Out := addHl .hl s
/-- `DEC HL` (43_alu16 R273). -/
def execDecHl (s : State) : Out := decPair .hl s
/-- `INC SP` (43_alu16 R272). -/
def execIncSp (s : State) : Out := incPair .sp s
/-- `ADD HL,SP` (43_alu16 R271). -/
def execAddHlSp (s : State) : Out := addHl .sp s
/-- `DEC SP` (43_alu16 R273). -/
def execDecSp (s : State) : Out := decPair .sp s
/-- `ADD SP,e` (43_alu16 R274). -/
def execAddSpE (e : Byte) (s : State) : Out :=
  .next (((s.setSp (s.spPlus e)).setFlags false false
    (halfCarrySp s.regs.sp e) (carrySp s.regs.sp e)).finish 2 4)

end Sys2Proof.Machine
end

