-- ==== Sys2Proof/Machine/Alu8.lean ====
section
/-! DEFINITION. 8-bit arithmetic and logic (42_alu8 R230 to R246). -/

namespace Sys2Proof.Machine

/-- The accumulator operation on the operand value `v`; `CP` writes the flags alone
(42_alu8 R231 to R238). -/
def State.alu (s : State) (op : AluOp) (v : Byte) : State :=
  match op with
  | .cp => s.setAluFlags (alu8 .cp s.regs.a v s.flagC)
  | .add | .adc | .sub | .sbc | .and | .xor | .or => s.setAlu (alu8 op s.regs.a v s.flagC)

/-- `op r` and `op (HL)` (42_alu8 R230). -/
def aluLoc (op : AluOp) (x : Loc) (s : State) : Out :=
  (readLoc x s).andThen fun v t => (t.alu op v).finish 1 (locCost x 1 2)

/-- `op n` (42_alu8 R230). -/
def aluImm (op : AluOp) (n : Byte) (s : State) : Out := .next ((s.alu op n).finish 2 2)

/-- `INC r` and `INC (HL)` (42_alu8 R239, R240): the carry stays. -/
def incLoc (x : Loc) (s : State) : Out :=
  (modifyLoc x (fun v => (inc8 v s.flagC).r) s).andThen fun v t =>
    (t.setAluFlags (inc8 v s.flagC)).finish 1 (locCost x 1 3)

/-- `DEC r` and `DEC (HL)` (42_alu8 R241, R242): the carry stays. -/
def decLoc (x : Loc) (s : State) : Out :=
  (modifyLoc x (fun v => (dec8 v s.flagC).r) s).andThen fun v t =>
    (t.setAluFlags (dec8 v s.flagC)).finish 1 (locCost x 1 3)

/-! ### One meaning per instruction -/

/-- `INC B` (42_alu8 R239). -/
def execIncB (s : State) : Out := incLoc (.reg .b) s
/-- `DEC B` (42_alu8 R241). -/
def execDecB (s : State) : Out := decLoc (.reg .b) s
/-- `INC C` (42_alu8 R239). -/
def execIncC (s : State) : Out := incLoc (.reg .c) s
/-- `DEC C` (42_alu8 R241). -/
def execDecC (s : State) : Out := decLoc (.reg .c) s
/-- `INC D` (42_alu8 R239). -/
def execIncD (s : State) : Out := incLoc (.reg .d) s
/-- `DEC D` (42_alu8 R241). -/
def execDecD (s : State) : Out := decLoc (.reg .d) s
/-- `INC E` (42_alu8 R239). -/
def execIncE (s : State) : Out := incLoc (.reg .e) s
/-- `DEC E` (42_alu8 R241). -/
def execDecE (s : State) : Out := decLoc (.reg .e) s
/-- `INC H` (42_alu8 R239). -/
def execIncH (s : State) : Out := incLoc (.reg .h) s
/-- `DEC H` (42_alu8 R241). -/
def execDecH (s : State) : Out := decLoc (.reg .h) s
/-- `DAA` (42_alu8 R243). -/
def execDaa (s : State) : Out :=
  .next ((s.setAlu (daa8 s.regs.a s.flagN s.flagH s.flagC)).finish 1 1)
/-- `INC L` (42_alu8 R239). -/
def execIncL (s : State) : Out := incLoc (.reg .l) s
/-- `DEC L` (42_alu8 R241). -/
def execDecL (s : State) : Out := decLoc (.reg .l) s
/-- `CPL` (42_alu8 R244). -/
def execCpl (s : State) : Out :=
  .next (((s.setReg .a (s.regs.a ^^^ 0xFF#8)).setFlags s.flagZ true true s.flagC).finish 1 1)
/-- `INC (HL)` (42_alu8 R240). -/
def execIncAtHl (s : State) : Out := incLoc .atHl s
/-- `DEC (HL)` (42_alu8 R242). -/
def execDecAtHl (s : State) : Out := decLoc .atHl s
/-- `SCF` (42_alu8 R245). -/
def execScf (s : State) : Out := .next ((s.setFlags s.flagZ false false true).finish 1 1)
/-- `INC A` (42_alu8 R239). -/
def execIncA (s : State) : Out := incLoc (.reg .a) s
/-- `DEC A` (42_alu8 R241). -/
def execDecA (s : State) : Out := decLoc (.reg .a) s
/-- `CCF` (42_alu8 R246). -/
def execCcf (s : State) : Out := .next ((s.setFlags s.flagZ false false (!s.flagC)).finish 1 1)
/-- `ADD A,B` (42_alu8 R231). -/
def execAddAB (s : State) : Out := aluLoc .add (.reg .b) s
/-- `ADD A,C` (42_alu8 R231). -/
def execAddAC (s : State) : Out := aluLoc .add (.reg .c) s
/-- `ADD A,D` (42_alu8 R231). -/
def execAddAD (s : State) : Out := aluLoc .add (.reg .d) s
/-- `ADD A,E` (42_alu8 R231). -/
def execAddAE (s : State) : Out := aluLoc .add (.reg .e) s
/-- `ADD A,H` (42_alu8 R231). -/
def execAddAH (s : State) : Out := aluLoc .add (.reg .h) s
/-- `ADD A,L` (42_alu8 R231). -/
def execAddAL (s : State) : Out := aluLoc .add (.reg .l) s
/-- `ADD A,(HL)` (42_alu8 R231). -/
def execAddAAtHl (s : State) : Out := aluLoc .add .atHl s
/-- `ADD A,A` (42_alu8 R231). -/
def execAddAA (s : State) : Out := aluLoc .add (.reg .a) s
/-- `ADC A,B` (42_alu8 R232). -/
def execAdcAB (s : State) : Out := aluLoc .adc (.reg .b) s
/-- `ADC A,C` (42_alu8 R232). -/
def execAdcAC (s : State) : Out := aluLoc .adc (.reg .c) s
/-- `ADC A,D` (42_alu8 R232). -/
def execAdcAD (s : State) : Out := aluLoc .adc (.reg .d) s
/-- `ADC A,E` (42_alu8 R232). -/
def execAdcAE (s : State) : Out := aluLoc .adc (.reg .e) s
/-- `ADC A,H` (42_alu8 R232). -/
def execAdcAH (s : State) : Out := aluLoc .adc (.reg .h) s
/-- `ADC A,L` (42_alu8 R232). -/
def execAdcAL (s : State) : Out := aluLoc .adc (.reg .l) s
/-- `ADC A,(HL)` (42_alu8 R232). -/
def execAdcAAtHl (s : State) : Out := aluLoc .adc .atHl s
/-- `ADC A,A` (42_alu8 R232). -/
def execAdcAA (s : State) : Out := aluLoc .adc (.reg .a) s
/-- `SUB B` (42_alu8 R233). -/
def execSubB (s : State) : Out := aluLoc .sub (.reg .b) s
/-- `SUB C` (42_alu8 R233). -/
def execSubC (s : State) : Out := aluLoc .sub (.reg .c) s
/-- `SUB D` (42_alu8 R233). -/
def execSubD (s : State) : Out := aluLoc .sub (.reg .d) s
/-- `SUB E` (42_alu8 R233). -/
def execSubE (s : State) : Out := aluLoc .sub (.reg .e) s
/-- `SUB H` (42_alu8 R233). -/
def execSubH (s : State) : Out := aluLoc .sub (.reg .h) s
/-- `SUB L` (42_alu8 R233). -/
def execSubL (s : State) : Out := aluLoc .sub (.reg .l) s
/-- `SUB (HL)` (42_alu8 R233). -/
def execSubAtHl (s : State) : Out := aluLoc .sub .atHl s
/-- `SUB A` (42_alu8 R233). -/
def execSubA (s : State) : Out := aluLoc .sub (.reg .a) s
/-- `SBC A,B` (42_alu8 R234). -/
def execSbcAB (s : State) : Out := aluLoc .sbc (.reg .b) s
/-- `SBC A,C` (42_alu8 R234). -/
def execSbcAC (s : State) : Out := aluLoc .sbc (.reg .c) s
/-- `SBC A,D` (42_alu8 R234). -/
def execSbcAD (s : State) : Out := aluLoc .sbc (.reg .d) s
/-- `SBC A,E` (42_alu8 R234). -/
def execSbcAE (s : State) : Out := aluLoc .sbc (.reg .e) s
/-- `SBC A,H` (42_alu8 R234). -/
def execSbcAH (s : State) : Out := aluLoc .sbc (.reg .h) s
/-- `SBC A,L` (42_alu8 R234). -/
def execSbcAL (s : State) : Out := aluLoc .sbc (.reg .l) s
/-- `SBC A,(HL)` (42_alu8 R234). -/
def execSbcAAtHl (s : State) : Out := aluLoc .sbc .atHl s
/-- `SBC A,A` (42_alu8 R234). -/
def execSbcAA (s : State) : Out := aluLoc .sbc (.reg .a) s
/-- `AND B` (42_alu8 R235). -/
def execAndB (s : State) : Out := aluLoc .and (.reg .b) s
/-- `AND C` (42_alu8 R235). -/
def execAndC (s : State) : Out := aluLoc .and (.reg .c) s
/-- `AND D` (42_alu8 R235). -/
def execAndD (s : State) : Out := aluLoc .and (.reg .d) s
/-- `AND E` (42_alu8 R235). -/
def execAndE (s : State) : Out := aluLoc .and (.reg .e) s
/-- `AND H` (42_alu8 R235). -/
def execAndH (s : State) : Out := aluLoc .and (.reg .h) s
/-- `AND L` (42_alu8 R235). -/
def execAndL (s : State) : Out := aluLoc .and (.reg .l) s
/-- `AND (HL)` (42_alu8 R235). -/
def execAndAtHl (s : State) : Out := aluLoc .and .atHl s
/-- `AND A` (42_alu8 R235). -/
def execAndA (s : State) : Out := aluLoc .and (.reg .a) s
/-- `XOR B` (42_alu8 R236). -/
def execXorB (s : State) : Out := aluLoc .xor (.reg .b) s
/-- `XOR C` (42_alu8 R236). -/
def execXorC (s : State) : Out := aluLoc .xor (.reg .c) s
/-- `XOR D` (42_alu8 R236). -/
def execXorD (s : State) : Out := aluLoc .xor (.reg .d) s
/-- `XOR E` (42_alu8 R236). -/
def execXorE (s : State) : Out := aluLoc .xor (.reg .e) s
/-- `XOR H` (42_alu8 R236). -/
def execXorH (s : State) : Out := aluLoc .xor (.reg .h) s
/-- `XOR L` (42_alu8 R236). -/
def execXorL (s : State) : Out := aluLoc .xor (.reg .l) s
/-- `XOR (HL)` (42_alu8 R236). -/
def execXorAtHl (s : State) : Out := aluLoc .xor .atHl s
/-- `XOR A` (42_alu8 R236). -/
def execXorA (s : State) : Out := aluLoc .xor (.reg .a) s
/-- `OR B` (42_alu8 R237). -/
def execOrB (s : State) : Out := aluLoc .or (.reg .b) s
/-- `OR C` (42_alu8 R237). -/
def execOrC (s : State) : Out := aluLoc .or (.reg .c) s
/-- `OR D` (42_alu8 R237). -/
def execOrD (s : State) : Out := aluLoc .or (.reg .d) s
/-- `OR E` (42_alu8 R237). -/
def execOrE (s : State) : Out := aluLoc .or (.reg .e) s
/-- `OR H` (42_alu8 R237). -/
def execOrH (s : State) : Out := aluLoc .or (.reg .h) s
/-- `OR L` (42_alu8 R237). -/
def execOrL (s : State) : Out := aluLoc .or (.reg .l) s
/-- `OR (HL)` (42_alu8 R237). -/
def execOrAtHl (s : State) : Out := aluLoc .or .atHl s
/-- `OR A` (42_alu8 R237). -/
def execOrA (s : State) : Out := aluLoc .or (.reg .a) s
/-- `CP B` (42_alu8 R238). -/
def execCpB (s : State) : Out := aluLoc .cp (.reg .b) s
/-- `CP C` (42_alu8 R238). -/
def execCpC (s : State) : Out := aluLoc .cp (.reg .c) s
/-- `CP D` (42_alu8 R238). -/
def execCpD (s : State) : Out := aluLoc .cp (.reg .d) s
/-- `CP E` (42_alu8 R238). -/
def execCpE (s : State) : Out := aluLoc .cp (.reg .e) s
/-- `CP H` (42_alu8 R238). -/
def execCpH (s : State) : Out := aluLoc .cp (.reg .h) s
/-- `CP L` (42_alu8 R238). -/
def execCpL (s : State) : Out := aluLoc .cp (.reg .l) s
/-- `CP (HL)` (42_alu8 R238). -/
def execCpAtHl (s : State) : Out := aluLoc .cp .atHl s
/-- `CP A` (42_alu8 R238). -/
def execCpA (s : State) : Out := aluLoc .cp (.reg .a) s
/-- `ADD A,n` (42_alu8 R231). -/
def execAddAN (n : Byte) (s : State) : Out := aluImm .add n s
/-- `ADC A,n` (42_alu8 R232). -/
def execAdcAN (n : Byte) (s : State) : Out := aluImm .adc n s
/-- `SUB n` (42_alu8 R233). -/
def execSubN (n : Byte) (s : State) : Out := aluImm .sub n s
/-- `SBC A,n` (42_alu8 R234). -/
def execSbcAN (n : Byte) (s : State) : Out := aluImm .sbc n s
/-- `AND n` (42_alu8 R235). -/
def execAndN (n : Byte) (s : State) : Out := aluImm .and n s
/-- `XOR n` (42_alu8 R236). -/
def execXorN (n : Byte) (s : State) : Out := aluImm .xor n s
/-- `OR n` (42_alu8 R237). -/
def execOrN (n : Byte) (s : State) : Out := aluImm .or n s
/-- `CP n` (42_alu8 R238). -/
def execCpN (n : Byte) (s : State) : Out := aluImm .cp n s

end Sys2Proof.Machine
end

