-- ==== Sys2Proof/Machine/Control.lean ====
section
/-! DEFINITION. Jumps, calls, returns, restarts (45_control_flow R310 to R321): no flag changes. -/

namespace Sys2Proof.Machine

/-- `JP cc,nn` (45_control_flow R312). -/
def jpCc (cc : Cond) (nn : Word) (s : State) : Out :=
  if s.cond cc then .next (s.jump nn 4) else .next (s.finish 3 3)

/-- `JR cc,e` (45_control_flow R315). -/
def jrCc (cc : Cond) (e : Byte) (s : State) : Out :=
  if s.cond cc then .next (s.jump (s.relative e) 3) else .next (s.finish 2 2)

/-- Push the address of the following instruction, then jump (45_control_flow R316, R321). -/
def callTo (target : Word) (len cycles : Nat) (s : State) : Out :=
  (push16 (s.next len) s).andThen fun _ t => t.jump target cycles

/-- `CALL cc,nn` (45_control_flow R317). -/
def callCc (cc : Cond) (nn : Word) (s : State) : Out :=
  if s.cond cc then callTo nn 3 6 s else .next (s.finish 3 3)

/-- Pop `pc` (45_control_flow R318). -/
def retWith (cycles : Nat) (s : State) : Out := (pop16 s).andThen fun v t => t.jump v cycles

/-- `RET cc` (45_control_flow R319). -/
def retCc (cc : Cond) (s : State) : Out :=
  if s.cond cc then retWith 5 s else .next (s.finish 1 2)

/-- `RST t`, `t = y * 8` (45_control_flow R321). -/
def rst (y : Fin 8) (s : State) : Out := callTo (BitVec.ofNat 16 (y.val * 8)) 1 4 s

/-! ### One meaning per instruction -/

/-- `JR e` (45_control_flow R314). -/
def execJrE (e : Byte) (s : State) : Out := .next (s.jump (s.relative e) 3)
/-- `JR NZ,e` (45_control_flow R315). -/
def execJrNzE (e : Byte) (s : State) : Out := jrCc .nz e s
/-- `JR Z,e` (45_control_flow R315). -/
def execJrZE (e : Byte) (s : State) : Out := jrCc .z e s
/-- `JR NC,e` (45_control_flow R315). -/
def execJrNcE (e : Byte) (s : State) : Out := jrCc .nc e s
/-- `JR C,e` (45_control_flow R315). -/
def execJrCE (e : Byte) (s : State) : Out := jrCc .c e s
/-- `RET NZ` (45_control_flow R319). -/
def execRetNz (s : State) : Out := retCc .nz s
/-- `JP NZ,nn` (45_control_flow R312). -/
def execJpNzNn (nn : Word) (s : State) : Out := jpCc .nz nn s
/-- `JP nn` (45_control_flow R311). -/
def execJpNn (nn : Word) (s : State) : Out := .next (s.jump nn 4)
/-- `CALL NZ,nn` (45_control_flow R317). -/
def execCallNzNn (nn : Word) (s : State) : Out := callCc .nz nn s
/-- `RST 0x00` (45_control_flow R321). -/
def execRst00 (s : State) : Out := rst 0 s
/-- `RET Z` (45_control_flow R319). -/
def execRetZ (s : State) : Out := retCc .z s
/-- `RET` (45_control_flow R318). -/
def execRet (s : State) : Out := retWith 4 s
/-- `JP Z,nn` (45_control_flow R312). -/
def execJpZNn (nn : Word) (s : State) : Out := jpCc .z nn s
/-- `CALL Z,nn` (45_control_flow R317). -/
def execCallZNn (nn : Word) (s : State) : Out := callCc .z nn s
/-- `CALL nn` (45_control_flow R316). -/
def execCallNn (nn : Word) (s : State) : Out := callTo nn 3 6 s
/-- `RST 0x08` (45_control_flow R321). -/
def execRst08 (s : State) : Out := rst 1 s
/-- `RET NC` (45_control_flow R319). -/
def execRetNc (s : State) : Out := retCc .nc s
/-- `JP NC,nn` (45_control_flow R312). -/
def execJpNcNn (nn : Word) (s : State) : Out := jpCc .nc nn s
/-- `CALL NC,nn` (45_control_flow R317). -/
def execCallNcNn (nn : Word) (s : State) : Out := callCc .nc nn s
/-- `RST 0x10` (45_control_flow R321). -/
def execRst10 (s : State) : Out := rst 2 s
/-- `RET C` (45_control_flow R319). -/
def execRetC (s : State) : Out := retCc .c s
/-- `RETI` (45_control_flow R320). -/
def execReti (s : State) : Out := returnFromInterrupt s
/-- `JP C,nn` (45_control_flow R312). -/
def execJpCNn (nn : Word) (s : State) : Out := jpCc .c nn s
/-- `CALL C,nn` (45_control_flow R317). -/
def execCallCNn (nn : Word) (s : State) : Out := callCc .c nn s
/-- `RST 0x18` (45_control_flow R321). -/
def execRst18 (s : State) : Out := rst 3 s
/-- `RST 0x20` (45_control_flow R321). -/
def execRst20 (s : State) : Out := rst 4 s
/-- `JP HL` (45_control_flow R313). -/
def execJpHl (s : State) : Out := .next (s.jump s.hl 1)
/-- `RST 0x28` (45_control_flow R321). -/
def execRst28 (s : State) : Out := rst 5 s
/-- `RST 0x30` (45_control_flow R321). -/
def execRst30 (s : State) : Out := rst 6 s
/-- `RST 0x38` (45_control_flow R321). -/
def execRst38 (s : State) : Out := rst 7 s

end Sys2Proof.Machine
end

