-- ==== Sys2Proof/Machine/Cpu.lean ====
section
/-! DEFINITION. CPU control and the invalid bytes (46_cpu_control R331 to R336). -/

namespace Sys2Proof.Machine

/-- `NOP` (46_cpu_control R331). -/
def execNop (s : State) : Out := .next (s.finish 1 1)
/-- `STOP` (46_cpu_control R333; the second byte is ignored). -/
def execStop (_n : Byte) (s : State) : Out := .next { s.finish 2 1 with stopped := true }
/-- `HALT` (46_cpu_control R332; the optional `HALT` bug: log 9). -/
def execHalt (s : State) : Out :=
  .next { s.finish 1 1 with
    halted := true, haltBugArmed := s.params.haltBug && !s.ime && s.pending.isSome }
/-- `INVALID 0xD3` (46_cpu_control R336). -/
def execInvalidD3 (s : State) : Out := invalidOpcode 0xD3#8 s
/-- `INVALID 0xDB` (46_cpu_control R336). -/
def execInvalidDB (s : State) : Out := invalidOpcode 0xDB#8 s
/-- `INVALID 0xDD` (46_cpu_control R336). -/
def execInvalidDD (s : State) : Out := invalidOpcode 0xDD#8 s
/-- `INVALID 0xE3` (46_cpu_control R336). -/
def execInvalidE3 (s : State) : Out := invalidOpcode 0xE3#8 s
/-- `INVALID 0xE4` (46_cpu_control R336). -/
def execInvalidE4 (s : State) : Out := invalidOpcode 0xE4#8 s
/-- `INVALID 0xEB` (46_cpu_control R336). -/
def execInvalidEB (s : State) : Out := invalidOpcode 0xEB#8 s
/-- `INVALID 0xEC` (46_cpu_control R336). -/
def execInvalidEC (s : State) : Out := invalidOpcode 0xEC#8 s
/-- `INVALID 0xED` (46_cpu_control R336). -/
def execInvalidED (s : State) : Out := invalidOpcode 0xED#8 s
/-- `DI` (46_cpu_control R334). -/
def execDi (s : State) : Out := .next { s.finish 1 1 with ime := false, imeSched := false }
/-- `INVALID 0xF4` (46_cpu_control R336). -/
def execInvalidF4 (s : State) : Out := invalidOpcode 0xF4#8 s
/-- `EI` (46_cpu_control R335). -/
def execEi (s : State) : Out := .next { s.finish 1 1 with imeSched := true }
/-- `INVALID 0xFC` (46_cpu_control R336). -/
def execInvalidFC (s : State) : Out := invalidOpcode 0xFC#8 s
/-- `INVALID 0xFD` (46_cpu_control R336). -/
def execInvalidFD (s : State) : Out := invalidOpcode 0xFD#8 s

end Sys2Proof.Machine
end

