-- ==== Sys2Proof/Machine/Load16.lean ====
section
/-! DEFINITION. The 16-bit loads, push and pop (41_load16 R211 to R216). -/

namespace Sys2Proof.Machine

/-- `LD rr,nn` (41_load16 R211). -/
def ldPair (rr : Reg16) (nn : Word) (s : State) : Out := .next ((s.setPair rr nn).finish 3 3)

/-- `PUSH qq` (41_load16 R215). -/
def push (qq : StackReg) (s : State) : Out :=
  (push16 (s.getStackReg qq) s).andThen fun _ t => t.finish 1 4

/-- `POP qq` (41_load16 R216). -/
def pop (qq : StackReg) (s : State) : Out :=
  (pop16 s).andThen fun v t => (t.setStackReg qq v).finish 1 3

/-! ### One meaning per instruction -/

/-- `LD BC,nn` (41_load16 R211). -/
def execLdBcNn (nn : Word) (s : State) : Out := ldPair .bc nn s
/-- `LD (nn),SP` (41_load16 R212). -/
def execLdAtNnSp (nn : Word) (s : State) : Out :=
  (busWrite16 nn s.regs.sp s).andThen fun _ t => t.finish 3 5
/-- `LD DE,nn` (41_load16 R211). -/
def execLdDeNn (nn : Word) (s : State) : Out := ldPair .de nn s
/-- `LD HL,nn` (41_load16 R211). -/
def execLdHlNn (nn : Word) (s : State) : Out := ldPair .hl nn s
/-- `LD SP,nn` (41_load16 R211). -/
def execLdSpNn (nn : Word) (s : State) : Out := ldPair .sp nn s
/-- `POP BC` (41_load16 R216). -/
def execPopBc (s : State) : Out := pop .bc s
/-- `PUSH BC` (41_load16 R215). -/
def execPushBc (s : State) : Out := push .bc s
/-- `POP DE` (41_load16 R216). -/
def execPopDe (s : State) : Out := pop .de s
/-- `PUSH DE` (41_load16 R215). -/
def execPushDe (s : State) : Out := push .de s
/-- `POP HL` (41_load16 R216). -/
def execPopHl (s : State) : Out := pop .hl s
/-- `PUSH HL` (41_load16 R215). -/
def execPushHl (s : State) : Out := push .hl s
/-- `POP AF` (41_load16 R216). -/
def execPopAf (s : State) : Out := pop .af s
/-- `PUSH AF` (41_load16 R215). -/
def execPushAf (s : State) : Out := push .af s
/-- `LD HL,SP+e` (41_load16 R214). -/
def execLdHlSpE (e : Byte) (s : State) : Out :=
  .next (((s.setPair .hl (s.spPlus e)).setFlags false false
    (halfCarrySp s.regs.sp e) (carrySp s.regs.sp e)).finish 2 3)
/-- `LD SP,HL` (41_load16 R213). -/
def execLdSpHl (s : State) : Out := .next ((s.setSp s.hl).finish 1 2)

end Sys2Proof.Machine
end

