-- ==== Sys2Proof/Machine/Load8.lean ====
section
/-! DEFINITION. The 8-bit loads (40_load8 R181 to R199): no flag changes. -/

namespace Sys2Proof.Machine

/-- `LD r,r'` (40_load8 R181). -/
def ldReg (r r' : Reg8) (s : State) : Out := .next ((s.setReg r (s.getReg r')).finish 1 1)

/-- `LD r,n` (40_load8 R182). -/
def ldImm (r : Reg8) (n : Byte) (s : State) : Out := .next ((s.setReg r n).finish 2 2)

/-- `LD r,(HL)` (40_load8 R183): the address is the old `HL`. -/
def ldFromHl (r : Reg8) (s : State) : Out :=
  (busRead s.hl s).andThen fun v t => (t.setReg r v).finish 1 2

/-- `LD (HL),r` (40_load8 R184). -/
def ldToHl (r : Reg8) (s : State) : Out :=
  (busWrite s.hl (s.getReg r) s).andThen fun _ t => t.finish 1 2

/-- A load of `A` from the address `a` (40_load8 R186, R187, R190, R192, R194). -/
def loadA (a : Word) (len cycles : Nat) (s : State) : Out :=
  (busRead a s).andThen fun v t => (t.setReg .a v).finish len cycles

/-- A store of `A` to the address `a` (40_load8 R188, R189, R191, R193, R195). -/
def storeA (a : Word) (len cycles : Nat) (s : State) : Out :=
  (busWrite a s.regs.a s).andThen fun _ t => t.finish len cycles

/-- `LD A,(HL+)` and `LD A,(HL-)`: the pointer moves by `delta` after the read (40_load8 R196,
R197). -/
def loadAMovingHl (delta : Word) (s : State) : Out :=
  (busRead s.hl s).andThen fun v t => ((t.setReg .a v).setPair .hl (s.hl + delta)).finish 1 2

/-- `LD (HL+),A` and `LD (HL-),A`: the pointer moves by `delta` after the write (40_load8 R198,
R199). -/
def storeAMovingHl (delta : Word) (s : State) : Out :=
  (busWrite s.hl s.regs.a s).andThen fun _ t => (t.setPair .hl (s.hl + delta)).finish 1 2

/-! ### One meaning per instruction -/

/-- `LD (BC),A` (40_load8 R188). -/
def execLdAtBcA (s : State) : Out := storeA s.bc 1 2 s
/-- `LD B,n` (40_load8 R182). -/
def execLdBN (n : Byte) (s : State) : Out := ldImm .b n s
/-- `LD A,(BC)` (40_load8 R186). -/
def execLdAAtBc (s : State) : Out := loadA s.bc 1 2 s
/-- `LD C,n` (40_load8 R182). -/
def execLdCN (n : Byte) (s : State) : Out := ldImm .c n s
/-- `LD (DE),A` (40_load8 R189). -/
def execLdAtDeA (s : State) : Out := storeA s.de 1 2 s
/-- `LD D,n` (40_load8 R182). -/
def execLdDN (n : Byte) (s : State) : Out := ldImm .d n s
/-- `LD A,(DE)` (40_load8 R187). -/
def execLdAAtDe (s : State) : Out := loadA s.de 1 2 s
/-- `LD E,n` (40_load8 R182). -/
def execLdEN (n : Byte) (s : State) : Out := ldImm .e n s
/-- `LD (HL+),A` (40_load8 R198). -/
def execLdAtHlIncA (s : State) : Out := storeAMovingHl 1#16 s
/-- `LD H,n` (40_load8 R182). -/
def execLdHN (n : Byte) (s : State) : Out := ldImm .h n s
/-- `LD A,(HL+)` (40_load8 R196). -/
def execLdAAtHlInc (s : State) : Out := loadAMovingHl 1#16 s
/-- `LD L,n` (40_load8 R182). -/
def execLdLN (n : Byte) (s : State) : Out := ldImm .l n s
/-- `LD (HL-),A` (40_load8 R199). -/
def execLdAtHlDecA (s : State) : Out := storeAMovingHl (-1#16) s
/-- `LD (HL),n` (40_load8 R185). -/
def execLdAtHlN (n : Byte) (s : State) : Out := (busWrite s.hl n s).andThen fun _ t => t.finish 2 3
/-- `LD A,(HL-)` (40_load8 R197). -/
def execLdAAtHlDec (s : State) : Out := loadAMovingHl (-1#16) s
/-- `LD A,n` (40_load8 R182). -/
def execLdAN (n : Byte) (s : State) : Out := ldImm .a n s
/-- `LD B,B` (40_load8 R181). -/
def execLdBB (s : State) : Out := ldReg .b .b s
/-- `LD B,C` (40_load8 R181). -/
def execLdBC (s : State) : Out := ldReg .b .c s
/-- `LD B,D` (40_load8 R181). -/
def execLdBD (s : State) : Out := ldReg .b .d s
/-- `LD B,E` (40_load8 R181). -/
def execLdBE (s : State) : Out := ldReg .b .e s
/-- `LD B,H` (40_load8 R181). -/
def execLdBH (s : State) : Out := ldReg .b .h s
/-- `LD B,L` (40_load8 R181). -/
def execLdBL (s : State) : Out := ldReg .b .l s
/-- `LD B,(HL)` (40_load8 R183). -/
def execLdBAtHl (s : State) : Out := ldFromHl .b s
/-- `LD B,A` (40_load8 R181). -/
def execLdBA (s : State) : Out := ldReg .b .a s
/-- `LD C,B` (40_load8 R181). -/
def execLdCB (s : State) : Out := ldReg .c .b s
/-- `LD C,C` (40_load8 R181). -/
def execLdCC (s : State) : Out := ldReg .c .c s
/-- `LD C,D` (40_load8 R181). -/
def execLdCD (s : State) : Out := ldReg .c .d s
/-- `LD C,E` (40_load8 R181). -/
def execLdCE (s : State) : Out := ldReg .c .e s
/-- `LD C,H` (40_load8 R181). -/
def execLdCH (s : State) : Out := ldReg .c .h s
/-- `LD C,L` (40_load8 R181). -/
def execLdCL (s : State) : Out := ldReg .c .l s
/-- `LD C,(HL)` (40_load8 R183). -/
def execLdCAtHl (s : State) : Out := ldFromHl .c s
/-- `LD C,A` (40_load8 R181). -/
def execLdCA (s : State) : Out := ldReg .c .a s
/-- `LD D,B` (40_load8 R181). -/
def execLdDB (s : State) : Out := ldReg .d .b s
/-- `LD D,C` (40_load8 R181). -/
def execLdDC (s : State) : Out := ldReg .d .c s
/-- `LD D,D` (40_load8 R181). -/
def execLdDD (s : State) : Out := ldReg .d .d s
/-- `LD D,E` (40_load8 R181). -/
def execLdDE (s : State) : Out := ldReg .d .e s
/-- `LD D,H` (40_load8 R181). -/
def execLdDH (s : State) : Out := ldReg .d .h s
/-- `LD D,L` (40_load8 R181). -/
def execLdDL (s : State) : Out := ldReg .d .l s
/-- `LD D,(HL)` (40_load8 R183). -/
def execLdDAtHl (s : State) : Out := ldFromHl .d s
/-- `LD D,A` (40_load8 R181). -/
def execLdDA (s : State) : Out := ldReg .d .a s
/-- `LD E,B` (40_load8 R181). -/
def execLdEB (s : State) : Out := ldReg .e .b s
/-- `LD E,C` (40_load8 R181). -/
def execLdEC (s : State) : Out := ldReg .e .c s
/-- `LD E,D` (40_load8 R181). -/
def execLdED (s : State) : Out := ldReg .e .d s
/-- `LD E,E` (40_load8 R181). -/
def execLdEE (s : State) : Out := ldReg .e .e s
/-- `LD E,H` (40_load8 R181). -/
def execLdEH (s : State) : Out := ldReg .e .h s
/-- `LD E,L` (40_load8 R181). -/
def execLdEL (s : State) : Out := ldReg .e .l s
/-- `LD E,(HL)` (40_load8 R183). -/
def execLdEAtHl (s : State) : Out := ldFromHl .e s
/-- `LD E,A` (40_load8 R181). -/
def execLdEA (s : State) : Out := ldReg .e .a s
/-- `LD H,B` (40_load8 R181). -/
def execLdHB (s : State) : Out := ldReg .h .b s
/-- `LD H,C` (40_load8 R181). -/
def execLdHC (s : State) : Out := ldReg .h .c s
/-- `LD H,D` (40_load8 R181). -/
def execLdHD (s : State) : Out := ldReg .h .d s
/-- `LD H,E` (40_load8 R181). -/
def execLdHE (s : State) : Out := ldReg .h .e s
/-- `LD H,H` (40_load8 R181). -/
def execLdHH (s : State) : Out := ldReg .h .h s
/-- `LD H,L` (40_load8 R181). -/
def execLdHL (s : State) : Out := ldReg .h .l s
/-- `LD H,(HL)` (40_load8 R183). -/
def execLdHAtHl (s : State) : Out := ldFromHl .h s
/-- `LD H,A` (40_load8 R181). -/
def execLdHA (s : State) : Out := ldReg .h .a s
/-- `LD L,B` (40_load8 R181). -/
def execLdLB (s : State) : Out := ldReg .l .b s
/-- `LD L,C` (40_load8 R181). -/
def execLdLC (s : State) : Out := ldReg .l .c s
/-- `LD L,D` (40_load8 R181). -/
def execLdLD (s : State) : Out := ldReg .l .d s
/-- `LD L,E` (40_load8 R181). -/
def execLdLE (s : State) : Out := ldReg .l .e s
/-- `LD L,H` (40_load8 R181). -/
def execLdLH (s : State) : Out := ldReg .l .h s
/-- `LD L,L` (40_load8 R181). -/
def execLdLL (s : State) : Out := ldReg .l .l s
/-- `LD L,(HL)` (40_load8 R183). -/
def execLdLAtHl (s : State) : Out := ldFromHl .l s
/-- `LD L,A` (40_load8 R181). -/
def execLdLA (s : State) : Out := ldReg .l .a s
/-- `LD (HL),B` (40_load8 R184). -/
def execLdAtHlB (s : State) : Out := ldToHl .b s
/-- `LD (HL),C` (40_load8 R184). -/
def execLdAtHlC (s : State) : Out := ldToHl .c s
/-- `LD (HL),D` (40_load8 R184). -/
def execLdAtHlD (s : State) : Out := ldToHl .d s
/-- `LD (HL),E` (40_load8 R184). -/
def execLdAtHlE (s : State) : Out := ldToHl .e s
/-- `LD (HL),H` (40_load8 R184). -/
def execLdAtHlH (s : State) : Out := ldToHl .h s
/-- `LD (HL),L` (40_load8 R184). -/
def execLdAtHlL (s : State) : Out := ldToHl .l s
/-- `LD (HL),A` (40_load8 R184). -/
def execLdAtHlA (s : State) : Out := ldToHl .a s
/-- `LD A,B` (40_load8 R181). -/
def execLdAB (s : State) : Out := ldReg .a .b s
/-- `LD A,C` (40_load8 R181). -/
def execLdAC (s : State) : Out := ldReg .a .c s
/-- `LD A,D` (40_load8 R181). -/
def execLdAD (s : State) : Out := ldReg .a .d s
/-- `LD A,E` (40_load8 R181). -/
def execLdAE (s : State) : Out := ldReg .a .e s
/-- `LD A,H` (40_load8 R181). -/
def execLdAH (s : State) : Out := ldReg .a .h s
/-- `LD A,L` (40_load8 R181). -/
def execLdAL (s : State) : Out := ldReg .a .l s
/-- `LD A,(HL)` (40_load8 R183). -/
def execLdAAtHl (s : State) : Out := ldFromHl .a s
/-- `LD A,A` (40_load8 R181). -/
def execLdAA (s : State) : Out := ldReg .a .a s
/-- `LDH (n),A` (40_load8 R195). -/
def execLdhAtNA (n : Byte) (s : State) : Out := storeA (zeroPage n) 2 3 s
/-- `LDH (C),A` (40_load8 R193). -/
def execLdhAtCA (s : State) : Out := storeA (zeroPage s.regs.c) 1 2 s
/-- `LD (nn),A` (40_load8 R191). -/
def execLdAtNnA (nn : Word) (s : State) : Out := storeA nn 3 4 s
/-- `LDH A,(n)` (40_load8 R194). -/
def execLdhAAtN (n : Byte) (s : State) : Out := loadA (zeroPage n) 2 3 s
/-- `LDH A,(C)` (40_load8 R192). -/
def execLdhAAtC (s : State) : Out := loadA (zeroPage s.regs.c) 1 2 s
/-- `LD A,(nn)` (40_load8 R190). -/
def execLdAAtNn (nn : Word) (s : State) : Out := loadA nn 3 4 s

end Sys2Proof.Machine
end

