-- ==== Sys2Proof/Machine/RotateBits.lean ====
section
/-! DEFINITION. Rotates, shifts, swap, bit test, reset and set (44_rotate_shift_bit R281 to R295). -/

namespace Sys2Proof.Machine

/-- An accumulator rotate: as the generic one, but `Z = 0` always (44_rotate_shift_bit R281 to
R284). -/
def rotA (op : RotOp) (s : State) : Out :=
  let x := rot8 op s.regs.a s.flagC
  .next (((s.setReg .a x.r).setFlags false false false x.c).finish 1 1)

/-- A generic rotate or shift (44_rotate_shift_bit R285 to R292). -/
def rotLoc (op : RotOp) (x : Loc) (s : State) : Out :=
  (modifyLoc x (fun v => (rot8 op v s.flagC).r) s).andThen fun v t =>
    (t.setAluFlags (rot8 op v s.flagC)).finish 2 (locCost x 2 4)

/-- `BIT b,t` (44_rotate_shift_bit R293): the operand is not written, the carry stays. -/
def bitLoc (b : Fin 8) (x : Loc) (s : State) : Out :=
  (readLoc x s).andThen fun v t =>
    (t.setFlags (!v.getLsbD b.val) false true t.flagC).finish 2 (locCost x 2 3)

/-- `RES b,t` (44_rotate_shift_bit R294): no flag changes. -/
def resLoc (b : Fin 8) (x : Loc) (s : State) : Out :=
  (modifyLoc x (fun v => v &&& ~~~(1#8 <<< b.val)) s).andThen fun _ t => t.finish 2 (locCost x 2 4)

/-- `SET b,t` (44_rotate_shift_bit R295): no flag changes. -/
def setLoc (b : Fin 8) (x : Loc) (s : State) : Out :=
  (modifyLoc x (fun v => v ||| (1#8 <<< b.val)) s).andThen fun _ t => t.finish 2 (locCost x 2 4)

/-! ### One meaning per instruction -/

/-- `RLCA` (44_rotate_shift_bit R281). -/
def execRlca (s : State) : Out := rotA .rlc s
/-- `RRCA` (44_rotate_shift_bit R282). -/
def execRrca (s : State) : Out := rotA .rrc s
/-- `RLA` (44_rotate_shift_bit R283). -/
def execRla (s : State) : Out := rotA .rl s
/-- `RRA` (44_rotate_shift_bit R284). -/
def execRra (s : State) : Out := rotA .rr s
/-- `RLC B` (44_rotate_shift_bit R285). -/
def execRlcB (s : State) : Out := rotLoc .rlc (.reg .b) s
/-- `RLC C` (44_rotate_shift_bit R285). -/
def execRlcC (s : State) : Out := rotLoc .rlc (.reg .c) s
/-- `RLC D` (44_rotate_shift_bit R285). -/
def execRlcD (s : State) : Out := rotLoc .rlc (.reg .d) s
/-- `RLC E` (44_rotate_shift_bit R285). -/
def execRlcE (s : State) : Out := rotLoc .rlc (.reg .e) s
/-- `RLC H` (44_rotate_shift_bit R285). -/
def execRlcH (s : State) : Out := rotLoc .rlc (.reg .h) s
/-- `RLC L` (44_rotate_shift_bit R285). -/
def execRlcL (s : State) : Out := rotLoc .rlc (.reg .l) s
/-- `RLC (HL)` (44_rotate_shift_bit R285). -/
def execRlcAtHl (s : State) : Out := rotLoc .rlc .atHl s
/-- `RLC A` (44_rotate_shift_bit R285). -/
def execRlcA (s : State) : Out := rotLoc .rlc (.reg .a) s
/-- `RRC B` (44_rotate_shift_bit R286). -/
def execRrcB (s : State) : Out := rotLoc .rrc (.reg .b) s
/-- `RRC C` (44_rotate_shift_bit R286). -/
def execRrcC (s : State) : Out := rotLoc .rrc (.reg .c) s
/-- `RRC D` (44_rotate_shift_bit R286). -/
def execRrcD (s : State) : Out := rotLoc .rrc (.reg .d) s
/-- `RRC E` (44_rotate_shift_bit R286). -/
def execRrcE (s : State) : Out := rotLoc .rrc (.reg .e) s
/-- `RRC H` (44_rotate_shift_bit R286). -/
def execRrcH (s : State) : Out := rotLoc .rrc (.reg .h) s
/-- `RRC L` (44_rotate_shift_bit R286). -/
def execRrcL (s : State) : Out := rotLoc .rrc (.reg .l) s
/-- `RRC (HL)` (44_rotate_shift_bit R286). -/
def execRrcAtHl (s : State) : Out := rotLoc .rrc .atHl s
/-- `RRC A` (44_rotate_shift_bit R286). -/
def execRrcA (s : State) : Out := rotLoc .rrc (.reg .a) s
/-- `RL B` (44_rotate_shift_bit R287). -/
def execRlB (s : State) : Out := rotLoc .rl (.reg .b) s
/-- `RL C` (44_rotate_shift_bit R287). -/
def execRlC (s : State) : Out := rotLoc .rl (.reg .c) s
/-- `RL D` (44_rotate_shift_bit R287). -/
def execRlD (s : State) : Out := rotLoc .rl (.reg .d) s
/-- `RL E` (44_rotate_shift_bit R287). -/
def execRlE (s : State) : Out := rotLoc .rl (.reg .e) s
/-- `RL H` (44_rotate_shift_bit R287). -/
def execRlH (s : State) : Out := rotLoc .rl (.reg .h) s
/-- `RL L` (44_rotate_shift_bit R287). -/
def execRlL (s : State) : Out := rotLoc .rl (.reg .l) s
/-- `RL (HL)` (44_rotate_shift_bit R287). -/
def execRlAtHl (s : State) : Out := rotLoc .rl .atHl s
/-- `RL A` (44_rotate_shift_bit R287). -/
def execRlA (s : State) : Out := rotLoc .rl (.reg .a) s
/-- `RR B` (44_rotate_shift_bit R288). -/
def execRrB (s : State) : Out := rotLoc .rr (.reg .b) s
/-- `RR C` (44_rotate_shift_bit R288). -/
def execRrC (s : State) : Out := rotLoc .rr (.reg .c) s
/-- `RR D` (44_rotate_shift_bit R288). -/
def execRrD (s : State) : Out := rotLoc .rr (.reg .d) s
/-- `RR E` (44_rotate_shift_bit R288). -/
def execRrE (s : State) : Out := rotLoc .rr (.reg .e) s
/-- `RR H` (44_rotate_shift_bit R288). -/
def execRrH (s : State) : Out := rotLoc .rr (.reg .h) s
/-- `RR L` (44_rotate_shift_bit R288). -/
def execRrL (s : State) : Out := rotLoc .rr (.reg .l) s
/-- `RR (HL)` (44_rotate_shift_bit R288). -/
def execRrAtHl (s : State) : Out := rotLoc .rr .atHl s
/-- `RR A` (44_rotate_shift_bit R288). -/
def execRrA (s : State) : Out := rotLoc .rr (.reg .a) s
/-- `SLA B` (44_rotate_shift_bit R289). -/
def execSlaB (s : State) : Out := rotLoc .sla (.reg .b) s
/-- `SLA C` (44_rotate_shift_bit R289). -/
def execSlaC (s : State) : Out := rotLoc .sla (.reg .c) s
/-- `SLA D` (44_rotate_shift_bit R289). -/
def execSlaD (s : State) : Out := rotLoc .sla (.reg .d) s
/-- `SLA E` (44_rotate_shift_bit R289). -/
def execSlaE (s : State) : Out := rotLoc .sla (.reg .e) s
/-- `SLA H` (44_rotate_shift_bit R289). -/
def execSlaH (s : State) : Out := rotLoc .sla (.reg .h) s
/-- `SLA L` (44_rotate_shift_bit R289). -/
def execSlaL (s : State) : Out := rotLoc .sla (.reg .l) s
/-- `SLA (HL)` (44_rotate_shift_bit R289). -/
def execSlaAtHl (s : State) : Out := rotLoc .sla .atHl s
/-- `SLA A` (44_rotate_shift_bit R289). -/
def execSlaA (s : State) : Out := rotLoc .sla (.reg .a) s
/-- `SRA B` (44_rotate_shift_bit R290). -/
def execSraB (s : State) : Out := rotLoc .sra (.reg .b) s
/-- `SRA C` (44_rotate_shift_bit R290). -/
def execSraC (s : State) : Out := rotLoc .sra (.reg .c) s
/-- `SRA D` (44_rotate_shift_bit R290). -/
def execSraD (s : State) : Out := rotLoc .sra (.reg .d) s
/-- `SRA E` (44_rotate_shift_bit R290). -/
def execSraE (s : State) : Out := rotLoc .sra (.reg .e) s
/-- `SRA H` (44_rotate_shift_bit R290). -/
def execSraH (s : State) : Out := rotLoc .sra (.reg .h) s
/-- `SRA L` (44_rotate_shift_bit R290). -/
def execSraL (s : State) : Out := rotLoc .sra (.reg .l) s
/-- `SRA (HL)` (44_rotate_shift_bit R290). -/
def execSraAtHl (s : State) : Out := rotLoc .sra .atHl s
/-- `SRA A` (44_rotate_shift_bit R290). -/
def execSraA (s : State) : Out := rotLoc .sra (.reg .a) s
/-- `SWAP B` (44_rotate_shift_bit R291). -/
def execSwapB (s : State) : Out := rotLoc .swap (.reg .b) s
/-- `SWAP C` (44_rotate_shift_bit R291). -/
def execSwapC (s : State) : Out := rotLoc .swap (.reg .c) s
/-- `SWAP D` (44_rotate_shift_bit R291). -/
def execSwapD (s : State) : Out := rotLoc .swap (.reg .d) s
/-- `SWAP E` (44_rotate_shift_bit R291). -/
def execSwapE (s : State) : Out := rotLoc .swap (.reg .e) s
/-- `SWAP H` (44_rotate_shift_bit R291). -/
def execSwapH (s : State) : Out := rotLoc .swap (.reg .h) s
/-- `SWAP L` (44_rotate_shift_bit R291). -/
def execSwapL (s : State) : Out := rotLoc .swap (.reg .l) s
/-- `SWAP (HL)` (44_rotate_shift_bit R291). -/
def execSwapAtHl (s : State) : Out := rotLoc .swap .atHl s
/-- `SWAP A` (44_rotate_shift_bit R291). -/
def execSwapA (s : State) : Out := rotLoc .swap (.reg .a) s
/-- `SRL B` (44_rotate_shift_bit R292). -/
def execSrlB (s : State) : Out := rotLoc .srl (.reg .b) s
/-- `SRL C` (44_rotate_shift_bit R292). -/
def execSrlC (s : State) : Out := rotLoc .srl (.reg .c) s
/-- `SRL D` (44_rotate_shift_bit R292). -/
def execSrlD (s : State) : Out := rotLoc .srl (.reg .d) s
/-- `SRL E` (44_rotate_shift_bit R292). -/
def execSrlE (s : State) : Out := rotLoc .srl (.reg .e) s
/-- `SRL H` (44_rotate_shift_bit R292). -/
def execSrlH (s : State) : Out := rotLoc .srl (.reg .h) s
/-- `SRL L` (44_rotate_shift_bit R292). -/
def execSrlL (s : State) : Out := rotLoc .srl (.reg .l) s
/-- `SRL (HL)` (44_rotate_shift_bit R292). -/
def execSrlAtHl (s : State) : Out := rotLoc .srl .atHl s
/-- `SRL A` (44_rotate_shift_bit R292). -/
def execSrlA (s : State) : Out := rotLoc .srl (.reg .a) s
/-- `BIT 0,B` (44_rotate_shift_bit R293). -/
def execBit0B (s : State) : Out := bitLoc 0 (.reg .b) s
/-- `BIT 0,C` (44_rotate_shift_bit R293). -/
def execBit0C (s : State) : Out := bitLoc 0 (.reg .c) s
/-- `BIT 0,D` (44_rotate_shift_bit R293). -/
def execBit0D (s : State) : Out := bitLoc 0 (.reg .d) s
/-- `BIT 0,E` (44_rotate_shift_bit R293). -/
def execBit0E (s : State) : Out := bitLoc 0 (.reg .e) s
/-- `BIT 0,H` (44_rotate_shift_bit R293). -/
def execBit0H (s : State) : Out := bitLoc 0 (.reg .h) s
/-- `BIT 0,L` (44_rotate_shift_bit R293). -/
def execBit0L (s : State) : Out := bitLoc 0 (.reg .l) s
/-- `BIT 0,(HL)` (44_rotate_shift_bit R293). -/
def execBit0AtHl (s : State) : Out := bitLoc 0 .atHl s
/-- `BIT 0,A` (44_rotate_shift_bit R293). -/
def execBit0A (s : State) : Out := bitLoc 0 (.reg .a) s
/-- `BIT 1,B` (44_rotate_shift_bit R293). -/
def execBit1B (s : State) : Out := bitLoc 1 (.reg .b) s
/-- `BIT 1,C` (44_rotate_shift_bit R293). -/
def execBit1C (s : State) : Out := bitLoc 1 (.reg .c) s
/-- `BIT 1,D` (44_rotate_shift_bit R293). -/
def execBit1D (s : State) : Out := bitLoc 1 (.reg .d) s
/-- `BIT 1,E` (44_rotate_shift_bit R293). -/
def execBit1E (s : State) : Out := bitLoc 1 (.reg .e) s
/-- `BIT 1,H` (44_rotate_shift_bit R293). -/
def execBit1H (s : State) : Out := bitLoc 1 (.reg .h) s
/-- `BIT 1,L` (44_rotate_shift_bit R293). -/
def execBit1L (s : State) : Out := bitLoc 1 (.reg .l) s
/-- `BIT 1,(HL)` (44_rotate_shift_bit R293). -/
def execBit1AtHl (s : State) : Out := bitLoc 1 .atHl s
/-- `BIT 1,A` (44_rotate_shift_bit R293). -/
def execBit1A (s : State) : Out := bitLoc 1 (.reg .a) s
/-- `BIT 2,B` (44_rotate_shift_bit R293). -/
def execBit2B (s : State) : Out := bitLoc 2 (.reg .b) s
/-- `BIT 2,C` (44_rotate_shift_bit R293). -/
def execBit2C (s : State) : Out := bitLoc 2 (.reg .c) s
/-- `BIT 2,D` (44_rotate_shift_bit R293). -/
def execBit2D (s : State) : Out := bitLoc 2 (.reg .d) s
/-- `BIT 2,E` (44_rotate_shift_bit R293). -/
def execBit2E (s : State) : Out := bitLoc 2 (.reg .e) s
/-- `BIT 2,H` (44_rotate_shift_bit R293). -/
def execBit2H (s : State) : Out := bitLoc 2 (.reg .h) s
/-- `BIT 2,L` (44_rotate_shift_bit R293). -/
def execBit2L (s : State) : Out := bitLoc 2 (.reg .l) s
/-- `BIT 2,(HL)` (44_rotate_shift_bit R293). -/
def execBit2AtHl (s : State) : Out := bitLoc 2 .atHl s
/-- `BIT 2,A` (44_rotate_shift_bit R293). -/
def execBit2A (s : State) : Out := bitLoc 2 (.reg .a) s
/-- `BIT 3,B` (44_rotate_shift_bit R293). -/
def execBit3B (s : State) : Out := bitLoc 3 (.reg .b) s
/-- `BIT 3,C` (44_rotate_shift_bit R293). -/
def execBit3C (s : State) : Out := bitLoc 3 (.reg .c) s
/-- `BIT 3,D` (44_rotate_shift_bit R293). -/
def execBit3D (s : State) : Out := bitLoc 3 (.reg .d) s
/-- `BIT 3,E` (44_rotate_shift_bit R293). -/
def execBit3E (s : State) : Out := bitLoc 3 (.reg .e) s
/-- `BIT 3,H` (44_rotate_shift_bit R293). -/
def execBit3H (s : State) : Out := bitLoc 3 (.reg .h) s
/-- `BIT 3,L` (44_rotate_shift_bit R293). -/
def execBit3L (s : State) : Out := bitLoc 3 (.reg .l) s
/-- `BIT 3,(HL)` (44_rotate_shift_bit R293). -/
def execBit3AtHl (s : State) : Out := bitLoc 3 .atHl s
/-- `BIT 3,A` (44_rotate_shift_bit R293). -/
def execBit3A (s : State) : Out := bitLoc 3 (.reg .a) s
/-- `BIT 4,B` (44_rotate_shift_bit R293). -/
def execBit4B (s : State) : Out := bitLoc 4 (.reg .b) s
/-- `BIT 4,C` (44_rotate_shift_bit R293). -/
def execBit4C (s : State) : Out := bitLoc 4 (.reg .c) s
/-- `BIT 4,D` (44_rotate_shift_bit R293). -/
def execBit4D (s : State) : Out := bitLoc 4 (.reg .d) s
/-- `BIT 4,E` (44_rotate_shift_bit R293). -/
def execBit4E (s : State) : Out := bitLoc 4 (.reg .e) s
/-- `BIT 4,H` (44_rotate_shift_bit R293). -/
def execBit4H (s : State) : Out := bitLoc 4 (.reg .h) s
/-- `BIT 4,L` (44_rotate_shift_bit R293). -/
def execBit4L (s : State) : Out := bitLoc 4 (.reg .l) s
/-- `BIT 4,(HL)` (44_rotate_shift_bit R293). -/
def execBit4AtHl (s : State) : Out := bitLoc 4 .atHl s
/-- `BIT 4,A` (44_rotate_shift_bit R293). -/
def execBit4A (s : State) : Out := bitLoc 4 (.reg .a) s
/-- `BIT 5,B` (44_rotate_shift_bit R293). -/
def execBit5B (s : State) : Out := bitLoc 5 (.reg .b) s
/-- `BIT 5,C` (44_rotate_shift_bit R293). -/
def execBit5C (s : State) : Out := bitLoc 5 (.reg .c) s
/-- `BIT 5,D` (44_rotate_shift_bit R293). -/
def execBit5D (s : State) : Out := bitLoc 5 (.reg .d) s
/-- `BIT 5,E` (44_rotate_shift_bit R293). -/
def execBit5E (s : State) : Out := bitLoc 5 (.reg .e) s
/-- `BIT 5,H` (44_rotate_shift_bit R293). -/
def execBit5H (s : State) : Out := bitLoc 5 (.reg .h) s
/-- `BIT 5,L` (44_rotate_shift_bit R293). -/
def execBit5L (s : State) : Out := bitLoc 5 (.reg .l) s
/-- `BIT 5,(HL)` (44_rotate_shift_bit R293). -/
def execBit5AtHl (s : State) : Out := bitLoc 5 .atHl s
/-- `BIT 5,A` (44_rotate_shift_bit R293). -/
def execBit5A (s : State) : Out := bitLoc 5 (.reg .a) s
/-- `BIT 6,B` (44_rotate_shift_bit R293). -/
def execBit6B (s : State) : Out := bitLoc 6 (.reg .b) s
/-- `BIT 6,C` (44_rotate_shift_bit R293). -/
def execBit6C (s : State) : Out := bitLoc 6 (.reg .c) s
/-- `BIT 6,D` (44_rotate_shift_bit R293). -/
def execBit6D (s : State) : Out := bitLoc 6 (.reg .d) s
/-- `BIT 6,E` (44_rotate_shift_bit R293). -/
def execBit6E (s : State) : Out := bitLoc 6 (.reg .e) s
/-- `BIT 6,H` (44_rotate_shift_bit R293). -/
def execBit6H (s : State) : Out := bitLoc 6 (.reg .h) s
/-- `BIT 6,L` (44_rotate_shift_bit R293). -/
def execBit6L (s : State) : Out := bitLoc 6 (.reg .l) s
/-- `BIT 6,(HL)` (44_rotate_shift_bit R293). -/
def execBit6AtHl (s : State) : Out := bitLoc 6 .atHl s
/-- `BIT 6,A` (44_rotate_shift_bit R293). -/
def execBit6A (s : State) : Out := bitLoc 6 (.reg .a) s
/-- `BIT 7,B` (44_rotate_shift_bit R293). -/
def execBit7B (s : State) : Out := bitLoc 7 (.reg .b) s
/-- `BIT 7,C` (44_rotate_shift_bit R293). -/
def execBit7C (s : State) : Out := bitLoc 7 (.reg .c) s
/-- `BIT 7,D` (44_rotate_shift_bit R293). -/
def execBit7D (s : State) : Out := bitLoc 7 (.reg .d) s
/-- `BIT 7,E` (44_rotate_shift_bit R293). -/
def execBit7E (s : State) : Out := bitLoc 7 (.reg .e) s
/-- `BIT 7,H` (44_rotate_shift_bit R293). -/
def execBit7H (s : State) : Out := bitLoc 7 (.reg .h) s
/-- `BIT 7,L` (44_rotate_shift_bit R293). -/
def execBit7L (s : State) : Out := bitLoc 7 (.reg .l) s
/-- `BIT 7,(HL)` (44_rotate_shift_bit R293). -/
def execBit7AtHl (s : State) : Out := bitLoc 7 .atHl s
/-- `BIT 7,A` (44_rotate_shift_bit R293). -/
def execBit7A (s : State) : Out := bitLoc 7 (.reg .a) s
/-- `RES 0,B` (44_rotate_shift_bit R294). -/
def execRes0B (s : State) : Out := resLoc 0 (.reg .b) s
/-- `RES 0,C` (44_rotate_shift_bit R294). -/
def execRes0C (s : State) : Out := resLoc 0 (.reg .c) s
/-- `RES 0,D` (44_rotate_shift_bit R294). -/
def execRes0D (s : State) : Out := resLoc 0 (.reg .d) s
/-- `RES 0,E` (44_rotate_shift_bit R294). -/
def execRes0E (s : State) : Out := resLoc 0 (.reg .e) s
/-- `RES 0,H` (44_rotate_shift_bit R294). -/
def execRes0H (s : State) : Out := resLoc 0 (.reg .h) s
/-- `RES 0,L` (44_rotate_shift_bit R294). -/
def execRes0L (s : State) : Out := resLoc 0 (.reg .l) s
/-- `RES 0,(HL)` (44_rotate_shift_bit R294). -/
def execRes0AtHl (s : State) : Out := resLoc 0 .atHl s
/-- `RES 0,A` (44_rotate_shift_bit R294). -/
def execRes0A (s : State) : Out := resLoc 0 (.reg .a) s
/-- `RES 1,B` (44_rotate_shift_bit R294). -/
def execRes1B (s : State) : Out := resLoc 1 (.reg .b) s
/-- `RES 1,C` (44_rotate_shift_bit R294). -/
def execRes1C (s : State) : Out := resLoc 1 (.reg .c) s
/-- `RES 1,D` (44_rotate_shift_bit R294). -/
def execRes1D (s : State) : Out := resLoc 1 (.reg .d) s
/-- `RES 1,E` (44_rotate_shift_bit R294). -/
def execRes1E (s : State) : Out := resLoc 1 (.reg .e) s
/-- `RES 1,H` (44_rotate_shift_bit R294). -/
def execRes1H (s : State) : Out := resLoc 1 (.reg .h) s
/-- `RES 1,L` (44_rotate_shift_bit R294). -/
def execRes1L (s : State) : Out := resLoc 1 (.reg .l) s
/-- `RES 1,(HL)` (44_rotate_shift_bit R294). -/
def execRes1AtHl (s : State) : Out := resLoc 1 .atHl s
/-- `RES 1,A` (44_rotate_shift_bit R294). -/
def execRes1A (s : State) : Out := resLoc 1 (.reg .a) s
/-- `RES 2,B` (44_rotate_shift_bit R294). -/
def execRes2B (s : State) : Out := resLoc 2 (.reg .b) s
/-- `RES 2,C` (44_rotate_shift_bit R294). -/
def execRes2C (s : State) : Out := resLoc 2 (.reg .c) s
/-- `RES 2,D` (44_rotate_shift_bit R294). -/
def execRes2D (s : State) : Out := resLoc 2 (.reg .d) s
/-- `RES 2,E` (44_rotate_shift_bit R294). -/
def execRes2E (s : State) : Out := resLoc 2 (.reg .e) s
/-- `RES 2,H` (44_rotate_shift_bit R294). -/
def execRes2H (s : State) : Out := resLoc 2 (.reg .h) s
/-- `RES 2,L` (44_rotate_shift_bit R294). -/
def execRes2L (s : State) : Out := resLoc 2 (.reg .l) s
/-- `RES 2,(HL)` (44_rotate_shift_bit R294). -/
def execRes2AtHl (s : State) : Out := resLoc 2 .atHl s
/-- `RES 2,A` (44_rotate_shift_bit R294). -/
def execRes2A (s : State) : Out := resLoc 2 (.reg .a) s
/-- `RES 3,B` (44_rotate_shift_bit R294). -/
def execRes3B (s : State) : Out := resLoc 3 (.reg .b) s
/-- `RES 3,C` (44_rotate_shift_bit R294). -/
def execRes3C (s : State) : Out := resLoc 3 (.reg .c) s
/-- `RES 3,D` (44_rotate_shift_bit R294). -/
def execRes3D (s : State) : Out := resLoc 3 (.reg .d) s
/-- `RES 3,E` (44_rotate_shift_bit R294). -/
def execRes3E (s : State) : Out := resLoc 3 (.reg .e) s
/-- `RES 3,H` (44_rotate_shift_bit R294). -/
def execRes3H (s : State) : Out := resLoc 3 (.reg .h) s
/-- `RES 3,L` (44_rotate_shift_bit R294). -/
def execRes3L (s : State) : Out := resLoc 3 (.reg .l) s
/-- `RES 3,(HL)` (44_rotate_shift_bit R294). -/
def execRes3AtHl (s : State) : Out := resLoc 3 .atHl s
/-- `RES 3,A` (44_rotate_shift_bit R294). -/
def execRes3A (s : State) : Out := resLoc 3 (.reg .a) s
/-- `RES 4,B` (44_rotate_shift_bit R294). -/
def execRes4B (s : State) : Out := resLoc 4 (.reg .b) s
/-- `RES 4,C` (44_rotate_shift_bit R294). -/
def execRes4C (s : State) : Out := resLoc 4 (.reg .c) s
/-- `RES 4,D` (44_rotate_shift_bit R294). -/
def execRes4D (s : State) : Out := resLoc 4 (.reg .d) s
/-- `RES 4,E` (44_rotate_shift_bit R294). -/
def execRes4E (s : State) : Out := resLoc 4 (.reg .e) s
/-- `RES 4,H` (44_rotate_shift_bit R294). -/
def execRes4H (s : State) : Out := resLoc 4 (.reg .h) s
/-- `RES 4,L` (44_rotate_shift_bit R294). -/
def execRes4L (s : State) : Out := resLoc 4 (.reg .l) s
/-- `RES 4,(HL)` (44_rotate_shift_bit R294). -/
def execRes4AtHl (s : State) : Out := resLoc 4 .atHl s
/-- `RES 4,A` (44_rotate_shift_bit R294). -/
def execRes4A (s : State) : Out := resLoc 4 (.reg .a) s
/-- `RES 5,B` (44_rotate_shift_bit R294). -/
def execRes5B (s : State) : Out := resLoc 5 (.reg .b) s
/-- `RES 5,C` (44_rotate_shift_bit R294). -/
def execRes5C (s : State) : Out := resLoc 5 (.reg .c) s
/-- `RES 5,D` (44_rotate_shift_bit R294). -/
def execRes5D (s : State) : Out := resLoc 5 (.reg .d) s
/-- `RES 5,E` (44_rotate_shift_bit R294). -/
def execRes5E (s : State) : Out := resLoc 5 (.reg .e) s
/-- `RES 5,H` (44_rotate_shift_bit R294). -/
def execRes5H (s : State) : Out := resLoc 5 (.reg .h) s
/-- `RES 5,L` (44_rotate_shift_bit R294). -/
def execRes5L (s : State) : Out := resLoc 5 (.reg .l) s
/-- `RES 5,(HL)` (44_rotate_shift_bit R294). -/
def execRes5AtHl (s : State) : Out := resLoc 5 .atHl s
/-- `RES 5,A` (44_rotate_shift_bit R294). -/
def execRes5A (s : State) : Out := resLoc 5 (.reg .a) s
/-- `RES 6,B` (44_rotate_shift_bit R294). -/
def execRes6B (s : State) : Out := resLoc 6 (.reg .b) s
/-- `RES 6,C` (44_rotate_shift_bit R294). -/
def execRes6C (s : State) : Out := resLoc 6 (.reg .c) s
/-- `RES 6,D` (44_rotate_shift_bit R294). -/
def execRes6D (s : State) : Out := resLoc 6 (.reg .d) s
/-- `RES 6,E` (44_rotate_shift_bit R294). -/
def execRes6E (s : State) : Out := resLoc 6 (.reg .e) s
/-- `RES 6,H` (44_rotate_shift_bit R294). -/
def execRes6H (s : State) : Out := resLoc 6 (.reg .h) s
/-- `RES 6,L` (44_rotate_shift_bit R294). -/
def execRes6L (s : State) : Out := resLoc 6 (.reg .l) s
/-- `RES 6,(HL)` (44_rotate_shift_bit R294). -/
def execRes6AtHl (s : State) : Out := resLoc 6 .atHl s
/-- `RES 6,A` (44_rotate_shift_bit R294). -/
def execRes6A (s : State) : Out := resLoc 6 (.reg .a) s
/-- `RES 7,B` (44_rotate_shift_bit R294). -/
def execRes7B (s : State) : Out := resLoc 7 (.reg .b) s
/-- `RES 7,C` (44_rotate_shift_bit R294). -/
def execRes7C (s : State) : Out := resLoc 7 (.reg .c) s
/-- `RES 7,D` (44_rotate_shift_bit R294). -/
def execRes7D (s : State) : Out := resLoc 7 (.reg .d) s
/-- `RES 7,E` (44_rotate_shift_bit R294). -/
def execRes7E (s : State) : Out := resLoc 7 (.reg .e) s
/-- `RES 7,H` (44_rotate_shift_bit R294). -/
def execRes7H (s : State) : Out := resLoc 7 (.reg .h) s
/-- `RES 7,L` (44_rotate_shift_bit R294). -/
def execRes7L (s : State) : Out := resLoc 7 (.reg .l) s
/-- `RES 7,(HL)` (44_rotate_shift_bit R294). -/
def execRes7AtHl (s : State) : Out := resLoc 7 .atHl s
/-- `RES 7,A` (44_rotate_shift_bit R294). -/
def execRes7A (s : State) : Out := resLoc 7 (.reg .a) s
/-- `SET 0,B` (44_rotate_shift_bit R295). -/
def execSet0B (s : State) : Out := setLoc 0 (.reg .b) s
/-- `SET 0,C` (44_rotate_shift_bit R295). -/
def execSet0C (s : State) : Out := setLoc 0 (.reg .c) s
/-- `SET 0,D` (44_rotate_shift_bit R295). -/
def execSet0D (s : State) : Out := setLoc 0 (.reg .d) s
/-- `SET 0,E` (44_rotate_shift_bit R295). -/
def execSet0E (s : State) : Out := setLoc 0 (.reg .e) s
/-- `SET 0,H` (44_rotate_shift_bit R295). -/
def execSet0H (s : State) : Out := setLoc 0 (.reg .h) s
/-- `SET 0,L` (44_rotate_shift_bit R295). -/
def execSet0L (s : State) : Out := setLoc 0 (.reg .l) s
/-- `SET 0,(HL)` (44_rotate_shift_bit R295). -/
def execSet0AtHl (s : State) : Out := setLoc 0 .atHl s
/-- `SET 0,A` (44_rotate_shift_bit R295). -/
def execSet0A (s : State) : Out := setLoc 0 (.reg .a) s
/-- `SET 1,B` (44_rotate_shift_bit R295). -/
def execSet1B (s : State) : Out := setLoc 1 (.reg .b) s
/-- `SET 1,C` (44_rotate_shift_bit R295). -/
def execSet1C (s : State) : Out := setLoc 1 (.reg .c) s
/-- `SET 1,D` (44_rotate_shift_bit R295). -/
def execSet1D (s : State) : Out := setLoc 1 (.reg .d) s
/-- `SET 1,E` (44_rotate_shift_bit R295). -/
def execSet1E (s : State) : Out := setLoc 1 (.reg .e) s
/-- `SET 1,H` (44_rotate_shift_bit R295). -/
def execSet1H (s : State) : Out := setLoc 1 (.reg .h) s
/-- `SET 1,L` (44_rotate_shift_bit R295). -/
def execSet1L (s : State) : Out := setLoc 1 (.reg .l) s
/-- `SET 1,(HL)` (44_rotate_shift_bit R295). -/
def execSet1AtHl (s : State) : Out := setLoc 1 .atHl s
/-- `SET 1,A` (44_rotate_shift_bit R295). -/
def execSet1A (s : State) : Out := setLoc 1 (.reg .a) s
/-- `SET 2,B` (44_rotate_shift_bit R295). -/
def execSet2B (s : State) : Out := setLoc 2 (.reg .b) s
/-- `SET 2,C` (44_rotate_shift_bit R295). -/
def execSet2C (s : State) : Out := setLoc 2 (.reg .c) s
/-- `SET 2,D` (44_rotate_shift_bit R295). -/
def execSet2D (s : State) : Out := setLoc 2 (.reg .d) s
/-- `SET 2,E` (44_rotate_shift_bit R295). -/
def execSet2E (s : State) : Out := setLoc 2 (.reg .e) s
/-- `SET 2,H` (44_rotate_shift_bit R295). -/
def execSet2H (s : State) : Out := setLoc 2 (.reg .h) s
/-- `SET 2,L` (44_rotate_shift_bit R295). -/
def execSet2L (s : State) : Out := setLoc 2 (.reg .l) s
/-- `SET 2,(HL)` (44_rotate_shift_bit R295). -/
def execSet2AtHl (s : State) : Out := setLoc 2 .atHl s
/-- `SET 2,A` (44_rotate_shift_bit R295). -/
def execSet2A (s : State) : Out := setLoc 2 (.reg .a) s
/-- `SET 3,B` (44_rotate_shift_bit R295). -/
def execSet3B (s : State) : Out := setLoc 3 (.reg .b) s
/-- `SET 3,C` (44_rotate_shift_bit R295). -/
def execSet3C (s : State) : Out := setLoc 3 (.reg .c) s
/-- `SET 3,D` (44_rotate_shift_bit R295). -/
def execSet3D (s : State) : Out := setLoc 3 (.reg .d) s
/-- `SET 3,E` (44_rotate_shift_bit R295). -/
def execSet3E (s : State) : Out := setLoc 3 (.reg .e) s
/-- `SET 3,H` (44_rotate_shift_bit R295). -/
def execSet3H (s : State) : Out := setLoc 3 (.reg .h) s
/-- `SET 3,L` (44_rotate_shift_bit R295). -/
def execSet3L (s : State) : Out := setLoc 3 (.reg .l) s
/-- `SET 3,(HL)` (44_rotate_shift_bit R295). -/
def execSet3AtHl (s : State) : Out := setLoc 3 .atHl s
/-- `SET 3,A` (44_rotate_shift_bit R295). -/
def execSet3A (s : State) : Out := setLoc 3 (.reg .a) s
/-- `SET 4,B` (44_rotate_shift_bit R295). -/
def execSet4B (s : State) : Out := setLoc 4 (.reg .b) s
/-- `SET 4,C` (44_rotate_shift_bit R295). -/
def execSet4C (s : State) : Out := setLoc 4 (.reg .c) s
/-- `SET 4,D` (44_rotate_shift_bit R295). -/
def execSet4D (s : State) : Out := setLoc 4 (.reg .d) s
/-- `SET 4,E` (44_rotate_shift_bit R295). -/
def execSet4E (s : State) : Out := setLoc 4 (.reg .e) s
/-- `SET 4,H` (44_rotate_shift_bit R295). -/
def execSet4H (s : State) : Out := setLoc 4 (.reg .h) s
/-- `SET 4,L` (44_rotate_shift_bit R295). -/
def execSet4L (s : State) : Out := setLoc 4 (.reg .l) s
/-- `SET 4,(HL)` (44_rotate_shift_bit R295). -/
def execSet4AtHl (s : State) : Out := setLoc 4 .atHl s
/-- `SET 4,A` (44_rotate_shift_bit R295). -/
def execSet4A (s : State) : Out := setLoc 4 (.reg .a) s
/-- `SET 5,B` (44_rotate_shift_bit R295). -/
def execSet5B (s : State) : Out := setLoc 5 (.reg .b) s
/-- `SET 5,C` (44_rotate_shift_bit R295). -/
def execSet5C (s : State) : Out := setLoc 5 (.reg .c) s
/-- `SET 5,D` (44_rotate_shift_bit R295). -/
def execSet5D (s : State) : Out := setLoc 5 (.reg .d) s
/-- `SET 5,E` (44_rotate_shift_bit R295). -/
def execSet5E (s : State) : Out := setLoc 5 (.reg .e) s
/-- `SET 5,H` (44_rotate_shift_bit R295). -/
def execSet5H (s : State) : Out := setLoc 5 (.reg .h) s
/-- `SET 5,L` (44_rotate_shift_bit R295). -/
def execSet5L (s : State) : Out := setLoc 5 (.reg .l) s
/-- `SET 5,(HL)` (44_rotate_shift_bit R295). -/
def execSet5AtHl (s : State) : Out := setLoc 5 .atHl s
/-- `SET 5,A` (44_rotate_shift_bit R295). -/
def execSet5A (s : State) : Out := setLoc 5 (.reg .a) s
/-- `SET 6,B` (44_rotate_shift_bit R295). -/
def execSet6B (s : State) : Out := setLoc 6 (.reg .b) s
/-- `SET 6,C` (44_rotate_shift_bit R295). -/
def execSet6C (s : State) : Out := setLoc 6 (.reg .c) s
/-- `SET 6,D` (44_rotate_shift_bit R295). -/
def execSet6D (s : State) : Out := setLoc 6 (.reg .d) s
/-- `SET 6,E` (44_rotate_shift_bit R295). -/
def execSet6E (s : State) : Out := setLoc 6 (.reg .e) s
/-- `SET 6,H` (44_rotate_shift_bit R295). -/
def execSet6H (s : State) : Out := setLoc 6 (.reg .h) s
/-- `SET 6,L` (44_rotate_shift_bit R295). -/
def execSet6L (s : State) : Out := setLoc 6 (.reg .l) s
/-- `SET 6,(HL)` (44_rotate_shift_bit R295). -/
def execSet6AtHl (s : State) : Out := setLoc 6 .atHl s
/-- `SET 6,A` (44_rotate_shift_bit R295). -/
def execSet6A (s : State) : Out := setLoc 6 (.reg .a) s
/-- `SET 7,B` (44_rotate_shift_bit R295). -/
def execSet7B (s : State) : Out := setLoc 7 (.reg .b) s
/-- `SET 7,C` (44_rotate_shift_bit R295). -/
def execSet7C (s : State) : Out := setLoc 7 (.reg .c) s
/-- `SET 7,D` (44_rotate_shift_bit R295). -/
def execSet7D (s : State) : Out := setLoc 7 (.reg .d) s
/-- `SET 7,E` (44_rotate_shift_bit R295). -/
def execSet7E (s : State) : Out := setLoc 7 (.reg .e) s
/-- `SET 7,H` (44_rotate_shift_bit R295). -/
def execSet7H (s : State) : Out := setLoc 7 (.reg .h) s
/-- `SET 7,L` (44_rotate_shift_bit R295). -/
def execSet7L (s : State) : Out := setLoc 7 (.reg .l) s
/-- `SET 7,(HL)` (44_rotate_shift_bit R295). -/
def execSet7AtHl (s : State) : Out := setLoc 7 .atHl s
/-- `SET 7,A` (44_rotate_shift_bit R295). -/
def execSet7A (s : State) : Out := setLoc 7 (.reg .a) s

end Sys2Proof.Machine
end

