-- ==== Sys2Proof/Machine/Engine.lean ====
section
/-! DEFINITION. The step function, the tick that follows it, the host's operations on a running
machine (60_exceptions R350, R370; 70_reset_and_hazards R403). -/

namespace Sys2Proof.Machine

/-- The fetch window: three byte reads, in this order, whatever the instruction's length
(30_encoding R141). With the `HALT` bug armed the `pc` stays on the first byte once (log 9). -/
def fetch (s : State) : Eff (Byte × Byte × Byte) :=
  let at1 := s.regs.pc + (if s.haltBugArmed then 0#16 else 1#16)
  (busRead s.regs.pc s).bind fun b0 t =>
    (busRead at1 t).bind fun b1 u =>
      (busRead (at1 + 1#16) u).bind fun b2 v => .done (b0, b1, b2) v

/-- The delayed effect of `EI` at the end of a step: `promote` is `ime_sched` as sampled before the
instruction; a fatal step has no end (60_exceptions R350). -/
def State.promoted (s : State) (promote : Bool) : State :=
  if s.fatal.isNone && promote && s.imeSched then { s with ime := true, imeSched := false } else s

/-- Fetch, decode, execute, promote (60_exceptions R350). -/
def runInstruction (s : State) : Out :=
  match fetch s with
  | .raise k t => .next (t.raised k)
  | .done (b0, b1, b2) t =>
    match exec (decode b0 b1 b2) t with
    | .next u => .next (u.promoted s.imeSched)
    | .fault r => .fault r
    | .refused r => .refused r

/-- `return 1`, nothing else changes (60_exceptions R350, R385): `HALT_IDLE_CYCLES` is 1. -/
def State.idle (s : State) : State := { s with lastCycles := 1 }

/-- `step()` (60_exceptions R350). -/
def cpuStep (s : State) : Out :=
  match s.fatal with
  | some k => .fault (.alreadyFatal k)
  | none =>
    if s.stopped then .next s.idle
    else
      match s.pending with
      | some p => if s.ime then dispatch p s else runInstruction { s with halted := false }
      | none => if s.halted then .next s.idle else runInstruction s

/-- `request` of each raised source, in order (60_exceptions R343, R370). -/
def State.requestAll (s : State) : List Source → State
  | [] => s
  | i :: is => (s.request i).requestAll is

/-- What arrives after the step just made: the head of the schedule (log 7). -/
def State.boundary (s : State) : Boundary := s.inputs.headD {}

/-- Tick and request after a step: what the peripherals raise arrives (60_exceptions R370; log 7).
After a fatal step nothing is ticked. -/
def State.tick (s : State) : State :=
  if s.fatal.isSome then s else { s with inputs := s.inputs.tail }.requestAll s.boundary.raised

/-- `STOP_WAKE`, "ignored when `stopped = 0`" (70_reset_and_hazards R403, 46_cpu_control R333). -/
def State.stopWake (s : State) : State := { s with stopped := false }

/-- The boundary after a step the host makes outside `run_frame`: tick and request, then the host's own
action, which is possible there alone (60_exceptions R371; log 7). -/
def State.atBoundary (s : State) : State :=
  if s.fatal.isSome then s else if s.boundary.wake then s.tick.stopWake else s.tick

/-- One transition: `step()`, then the boundary (60_exceptions R350, R370, R371). -/
def singleStep (s : State) : Out :=
  match cpuStep s with
  | .next t => .next t.atBoundary
  | .fault r => .fault r
  | .refused r => .refused r

/-- How a frame ends (60_exceptions R370, R372): `running` when the bound on the rounds is used up. -/
inductive FrameEnd where
  | frameDone (s : State)
  | fatal (k : Fatal) (s : State)
  | running (s : State)
deriving DecidableEq, Repr

/-- The rounds of a frame: `step()`, then tick and request, until frame-complete is among what was
raised (60_exceptions R370), or a fatal condition. The host does nothing meanwhile (R371): a wake of the
schedule passes by (log 7). `fuel` bounds the rounds; the loop of the spec has no bound (log 18). -/
def frameRounds : Nat → State → FrameEnd
  | 0, s => .running s
  | n + 1, s =>
    match cpuStep s with
    | .next t =>
      match t.fatal with
      | some k => .fatal k t
      | none =>
        if t.boundary.raised.contains .vblank then .frameDone t.tick else frameRounds n t.tick
    | .fault (.alreadyFatal k) => .fatal k s
    | .refused _ => .running s

/-- `run_frame(buttons)` (60_exceptions R370). DESIGN CHOICE (log 25): the pressed-button set, which the
spec calls opaque and gives no size, is one byte. -/
def runFrame (fuel : Nat) (buttons : Byte) (s : State) : FrameEnd :=
  frameRounds fuel (s.logExt (.markButtons buttons))

/-- Place a byte in the storage behind an address, as loading a program from outside does: where the
address has no storage (an external device, the null device, no owner) nothing changes (log 17). -/
def State.poke (s : State) (a : Word) (v : Byte) : State :=
  match s.getId a with
  | some .cartridge =>
    if inRomArea a then
      { s with cart := { s.cart with rom := s.cart.rom.write (s.cart.romOffset a) v } }
    else if inRamWindow a && decide (s.cart.ramIndex a < s.cart.ramLen) then
      let cell := if s.cart.mbc.isMbc2 then v &&& 0x0F#8 else v
      { s with cart := { s.cart with ram := s.cart.ram.write (s.cart.ramIndex a) cell } }
    else s
  | some .ramBanks => (ramBanksSet8 s a v).getD s
  | some .interruptController => (interruptSet8 s a v).getD s
  | some .bootRom =>
    match s.bootRom with
    | some img =>
      if a.toNat < img.len then
        { s with bootRom := some { img with cells := img.cells.write a.toNat v } }
      else s
    | none => s
  | some .null | some .graphics | some .audio | some .timer | some .joypad | some .serial => s
  | none => s

/-- What a fetch needs besides the bytes: no fatal record, not stopped, not halted, no interrupt
that would go first, no armed `HALT` bug (60_exceptions R350). -/
def State.readyToFetch (s : State) : State :=
  { s with fatal := none, stopped := false, halted := false, haltBugArmed := false,
           ime := s.ime && s.pending.isNone }

/-- The state with a word of the opcode table placed where the next instruction is fetched
(log 17). -/
def State.placeFetchWord (s : State) (nbits w : Nat) : State :=
  let x := tableWindow nbits w
  (((s.poke s.regs.pc x.1).poke (s.regs.pc + 1#16) x.2.1).poke (s.regs.pc + 2#16) x.2.2).readyToFetch

end Sys2Proof.Machine
end

