-- ==== Sys2Proof/Machine/Step.lean ====
section
/-! DEFINITION. The machine's step and the placing of an instruction under test. -/

namespace Sys2Proof.Machine

/-- One transition of the machine: `step()` (60_exceptions R350), then the tick and the requests (R370)
and the host's action at the boundary (R371; log 7). -/
def step (s : State) : Host.Outcome State Fault Refusal := singleStep s

/-- `s` with the instruction of a table word where `step` fetches its next instruction (log 17). -/
def State.withFetchWord (s : State) (nbits w : Nat) : State := s.placeFetchWord nbits w

end Sys2Proof.Machine
end

