-- ==== Sys2Proof/Machine/Build.lean ====
section
/-! DEFINITION. Building the machine from what the host supplies (70_reset_and_hazards R390 to R400;
20_memory R110 to R114, R132, R133) and the host's operations on the cartridge. -/

namespace Sys2Proof.Machine

/-- The variants of the bank controller: "report controller type" (20_memory R112, R115). -/
inductive Variant where
  | fixed | familyA | familyB | familyC | mbc2
deriving DecidableEq, Repr

/-- The variant a controller is of (20_memory R115). -/
def Mbc.variant (m : Mbc) : Variant :=
  match m with
  | .fixed => .fixed
  | .familyA _ _ _ _ => .familyA
  | .familyB _ _ _ => .familyB
  | .familyC _ _ _ _ => .familyC
  | .mbc2 _ _ => .mbc2

/-- The factory's table (20_memory R112). -/
def factory (mbc2Enabled : Bool) (type : Byte) : Except Fatal Variant :=
  let t := type.toNat
  if t = 0x00 ∨ t = 0x08 ∨ t = 0x09 then .ok .fixed
  else if 0x01 ≤ t ∧ t ≤ 0x03 then .ok .familyA
  else if (t = 0x05 ∨ t = 0x06) ∧ mbc2Enabled = true then .ok .mbc2
  else if 0x0F ≤ t ∧ t ≤ 0x13 then .ok .familyB
  else if 0x19 ≤ t ∧ t ≤ 0x1E then .ok .familyC
  else .error (.unknownCartridgeType type)

/-- `rom_banks` from the ROM size code (20_memory R113). -/
def romBanksOf (code : Byte) : Option Nat :=
  if code.toNat ≤ 8 then some (2 * 2 ^ code.toNat) else none

/-- `ram_len` from the RAM size code (20_memory R114). -/
def ramLenOf (code : Byte) : Option Nat :=
  match code.toNat with
  | 0 => some 0
  | 1 => some 2048
  | 2 => some 8192
  | 3 => some 32768
  | 4 => some 131072
  | 5 => some 65536
  | _ => none

/-- The registers of a variant at reset (10_state R37). -/
def Variant.reset (v : Variant) : Mbc :=
  match v with
  | .fixed => .fixed
  | .familyA => .familyA false 0#5 0#2 0#1
  | .familyB => .familyB false 0#7 0#8
  | .familyC => .familyC false 1#8 0#1 0#4
  | .mbc2 => .mbc2 false 0#4

/-- The array of an image's bytes, in canonical form; entries at or beyond the length are no bytes of
the image. -/
def Image.array (img : Image) : Memory := Memory.ofCells (img.cells.filter fun c => c.1 < img.len)

/-- What a variant keeps of the bytes that seed its RAM: MBC2 cells store the low four bits
(20_memory R126; log 20). -/
def Variant.keeps (v : Variant) (m : Memory) : Memory :=
  match v with
  | .mbc2 => Memory.ofCells (m.map fun c => (c.1, c.2 &&& 0x0F#8))
  | .fixed | .familyA | .familyB | .familyC => m

/-- `load_ram(bytes)` into an array of `len` bytes, or zeros (20_memory R133,
70_reset_and_hazards R400 step 5). -/
def loadRam (v : Variant) (len : Nat) (bytes : Option Image) : Except Fatal Memory :=
  match bytes with
  | none => .ok []
  | some img =>
    if img.len = len then .ok (v.keeps img.array) else .error (.malformedCartridge .ramInitLength)

/-- The cartridge of an image: steps 1 to 6 of 70_reset_and_hazards R400, in their order. -/
def buildCart (p : Params) (rom : Image) (ramInit : Option Image) : Except Fatal Cart :=
  let image := rom.array
  if rom.len < 0x0150 ∨ rom.len < 0x8000 then .error (.malformedCartridge .imageTooShort)
  else
    match factory p.mbc2Enabled (image.read 0x0147) with
    | .error k => .error k
    | .ok v =>
      match romBanksOf (image.read 0x0148) with
      | none => .error (.malformedCartridge (.romSizeCode (image.read 0x0148)))
      | some banks =>
        if rom.len ≠ banks * 0x4000 then .error (.malformedCartridge .imageLength)
        else
          match if v = .mbc2 then some 512 else ramLenOf (image.read 0x0149) with
          | none => .error (.malformedCartridge (.ramSizeCode (image.read 0x0149)))
          | some len =>
            match loadRam v len ramInit with
            | .error k => .error k
            | .ok ram =>
              .ok { rom := image, romBanks := banks, ramLen := len, mbc := v.reset, ram := ram }

/-- The Register File of a launch state (70_reset_and_hazards R391 to R393). -/
def launchRegs (launch : Launch) (rev : Revision) : RegFile :=
  match launch, rev with
  | .cold, _ =>
    { a := 0x00#8, f := 0x00#8, b := 0x00#8, c := 0x00#8, d := 0x00#8, e := 0x00#8, h := 0x00#8,
      l := 0x00#8, sp := 0x0000#16, pc := 0x0000#16 }
  | .postBoot, .dmg =>
    { a := 0x01#8, f := 0xB0#8, b := 0x00#8, c := 0x13#8, d := 0x00#8, e := 0xD8#8, h := 0x01#8,
      l := 0x4D#8, sp := 0xFFFE#16, pc := 0x0100#16 }
  | .postBoot, .cgb =>
    { a := 0x11#8, f := 0x80#8, b := 0x00#8, c := 0x00#8, d := 0xFF#8, e := 0x56#8, h := 0x00#8,
      l := 0x0D#8, sp := 0xFFFE#16, pc := 0x0100#16 }

/-- What the host supplies (70_reset_and_hazards R400, R403). `inputs` is the part of `EXT` that is
data of this model (log 7). -/
structure BuildInput where
  rom : Image
  ramInit : Option Image := none
  bootRom : Option Image := none
  params : Params := {}
  map : List Registration := defaultMap
  launch : Launch := .cold
  inputs : List Boundary := []
deriving DecidableEq, Repr

/-- `build`: a machine in a launch state, or a load-time fatal (70_reset_and_hazards R400,
60_exceptions R365; log 19). -/
def build (x : BuildInput) : Except Fatal State :=
  match buildCart x.params x.rom x.ramInit with
  | .error k => .error k
  | .ok cart =>
    .ok { State.reset with
      regs := launchRegs x.launch x.params.revision
      cart := cart
      bootRom := x.bootRom.map fun img => { img with cells := img.array }
      bootOverlay := x.bootRom.isSome && x.launch == .cold
      map := x.map
      slots := builtSlots x.bootRom.isSome
      params := x.params
      inputs := x.inputs }

/-- `dump_ram()`: the bytes of `cart_ram`, no state change (20_memory R132). -/
def dumpRam (s : State) : List Byte := (List.range s.cart.ramLen).map s.cart.ram.read

/-- The image of the blank cartridge: 32 KB of 0x00 (log 2). -/
def blankImage : Image := { len := 0x8000, cells := [] }

end Sys2Proof.Machine
end

