-- ==== Sys2Proof/Safety.lean ====
section
/-! DEFINITION. What claims about the machine are said in: reading a byte without asking the oracle,
which accesses complete, which addresses a store can change, the invariant, the wiring `build`
guarantees, runs. -/

namespace Sys2Proof.Machine

/-! ### Reading one byte -/

/-- The byte `Bus.get8(a)` returns, where the core holds it: `none` where an external device or the
fatal path would answer (20_memory R60, R76). -/
def State.peek (s : State) (a : Word) : Option Byte :=
  match s.route a with
  | .error _ => none
  | .ok .cartridge => s.cart.get8 s.params a
  | .ok .ramBanks => ramBanksGet8 s a
  | .ok .interruptController => interruptGet8 s a
  | .ok .null => some s.params.nullRead
  | .ok .bootRom => some (bootByte s a)
  | .ok .graphics | .ok .audio | .ok .timer | .ok .joypad | .ok .serial => none

/-! ### Which accesses complete -/

/-- The device owns the address: it answers there and raises nothing (20_memory R74, R77, R115,
60_exceptions R346). The boot ROM owns every address that routes to it: DESIGN CHOICE, log 26. -/
def deviceOwns (d : DeviceId) (a : Word) : Bool :=
  match d with
  | .cartridge => inRomArea a || inRamWindow a
  | .ramBanks => (wramIndex a).isSome || (hramIndex a).isSome
  | .interruptController => a == 0xFFFF#16 || a == 0xFF0F#16
  | .null | .bootRom | .graphics | .audio | .timer | .joypad | .serial => true

/-- An access to `a` reaches an installed device that owns it. -/
def State.readable (s : State) (a : Word) : Bool :=
  match s.route a with
  | .ok d => deviceOwns d a
  | .error _ => false

/-- Every one of the `n` addresses from `src + i` on is readable. -/
def State.readableFrom (s : State) (src : Word) : Nat → Nat → Bool
  | 0, _ => true
  | n + 1, i => s.readable (src + BitVec.ofNat 16 i) && s.readableFrom src n (i + 1)

/-- A write of `v` to `a` completes: its device owns `a`, or the bus intercepts the write and every
byte of the copy it starts is readable (20_memory R61, R101, R104, R105). -/
def State.writable (s : State) (a : Word) (v : Byte) : Bool :=
  match intercept s.params.revision a with
  | some .spriteDma => s.readableFrom (join v 0x00#8) 160 0
  | some .blockTransfer =>
    v.getLsbD 7 || s.readableFrom (Config.extBlockSource s.extReads) (blockLength v) 0
  | some .bootDisable => true
  | none => s.readable a

/-! ### What a store can change -/

/-- The two addresses reach one cell of the RAM banks: the same address, or its echo
(20_memory R77). -/
def sameRamCell (a x : Word) : Bool :=
  ((wramIndex a).isSome && wramIndex a == wramIndex x) ||
    ((hramIndex a).isSome && hramIndex a == hramIndex x)

/-- A store to `a` can change the byte read at `x`: `x` reaches the stored cell, or the store is a
bank-control write and `x` a banked address, or it disables the overlay and `x` lies under it
(20_memory R61, R77, R78, R115, R128, R136). -/
def State.touches (s : State) (a x : Word) : Bool :=
  match intercept s.params.revision a with
  | some .spriteDma => false
  | some .blockTransfer => false
  | some .bootDisable => inOverlay s.params.revision x
  | none =>
    match s.route a with
    | .ok .cartridge =>
      if inRomArea a then
        (decide (0x4000 ≤ x.toNat) && decide (x.toNat ≤ 0x7FFF)) || inRamWindow x
      else inRamWindow x && s.cart.ramIndex x == s.cart.ramIndex a
    | .ok .ramBanks => sameRamCell a x
    | .ok .interruptController => x == a
    | .ok .null | .ok .bootRom | .ok .graphics | .ok .audio | .ok .timer | .ok .joypad
    | .ok .serial => false
    | .error _ => false

/-! ### The end of an instruction, as the statements say it -/

/-- `s` with the register file `g`, `pc` and the reported cycles: nothing else differs, but that the
latch of the optional `HALT` bug is spent (log 9). -/
def State.ends (s : State) (g : RegFile) (pc : Word) (cycles : Nat) : State :=
  { s with regs := { g with pc := pc }, lastCycles := cycles, haltBugArmed := false }

/-- The register file with the flags `z n h c` (10_state R25). -/
def RegFile.withFlags (g : RegFile) (z n h c : Bool) : RegFile := { g with f := packFlags z n h c }

/-- `w` is what the two writes of `push16(v)` make of `s`: the high byte at `SP - 1` first, then the low
byte at `SP - 2`, `SP` one lower before each (41_load16 R210). -/
def Pushes (v : Word) (s w : State) : Prop :=
  ∃ u, busWrite (s.regs.sp - 1#16) (hiByte v) (s.setSp (s.regs.sp - 1#16)) = .done () u ∧
    busWrite (s.regs.sp - 2#16) (loByte v) (u.setSp (s.regs.sp - 2#16)) = .done () w

/-- `w` is what the two reads of `pop16()` make of `s`, before `SP` moves, and `v` the value: the high
byte at `SP + 1` first, then the low byte at `SP` (41_load16 R210). -/
def Pops (s : State) (v : Word) (w : State) : Prop :=
  ∃ hi lo u, busRead (s.regs.sp + 1#16) s = .done hi u ∧ busRead s.regs.sp u = .done lo w ∧
    v = join hi lo

/-- The address lies in the RAM banks and is routed to them. -/
def State.inRam (s : State) (a : Word) : Prop :=
  s.route a = .ok .ramBanks ∧ deviceOwns .ramBanks a = true

/-- `step` will fetch an instruction: no fatal record, not stopped, and no interrupt goes first: none
is pending and the core is not halted, or one is pending with the gate closed (60_exceptions R350). -/
def State.fetches (s : State) : Prop :=
  s.fatal = none ∧ s.stopped = false ∧
    ((s.pending = none ∧ s.halted = false) ∨ (s.pending ≠ none ∧ s.ime = false))

/-- `u` is `s`, awake, after the three reads of the fetch window, and `b0 b1 b2` are the bytes read
(30_encoding R141), with no `HALT` bug armed (log 9). -/
def State.FetchedAs (s : State) (b0 b1 b2 : Byte) (u : State) : Prop :=
  s.haltBugArmed = false ∧
  ∃ u0 u1, busRead s.regs.pc { s with halted := false } = .done b0 u0 ∧
    busRead (s.regs.pc + 1#16) u0 = .done b1 u1 ∧ busRead (s.regs.pc + 2#16) u1 = .done b2 u

/-! ### The header, the cartridge RAM and the copies, as the statements say them -/

/-- The type bytes with their variants, row by row (20_memory R112). -/
def typeRows : List (Nat × Variant) :=
  [(0x00, .fixed), (0x08, .fixed), (0x09, .fixed), (0x01, .familyA), (0x02, .familyA),
   (0x03, .familyA), (0x05, .mbc2), (0x06, .mbc2), (0x0F, .familyB), (0x10, .familyB),
   (0x11, .familyB), (0x12, .familyB), (0x13, .familyB), (0x19, .familyC), (0x1A, .familyC),
   (0x1B, .familyC), (0x1C, .familyC), (0x1D, .familyC), (0x1E, .familyC)]

/-- The RAM size codes with `ram_len`, row by row (20_memory R114). -/
def ramSizeRows : List (Nat × Nat) :=
  [(0, 0), (1, 2048), (2, 8192), (3, 32768), (4, 131072), (5, 65536)]

/-- The type byte names the variant: MBC2 only where `MBC2_ENABLED` is set (20_memory R112). -/
def TypeNames (p : Params) (t : Byte) (v : Variant) : Prop :=
  (t.toNat, v) ∈ typeRows ∧ (v = .mbc2 → p.mbc2Enabled = true)

/-- The RAM enable latch; the fixed variant has none (20_memory R116, R129). -/
def Mbc.latch (m : Mbc) : Option Bool :=
  match m with
  | .fixed => none
  | .familyA en _ _ _ | .familyB en _ _ | .familyC en _ _ _ | .mbc2 en _ => some en

/-- Writing `v` at `a` completes and stores `w` in cell `k` of `cart_ram`, nothing else. -/
def State.StoresRam (s : State) (a : Word) (v : Byte) (k : Nat) (w : Byte) : Prop :=
  ∃ m, busWrite a v s = .done () { s with cart := { s.cart with ram := m } } ∧
    ∀ j, m.read j = if j = k then w else s.cart.ram.read j

/-- The record of the bytes `vs` handed over one by one, newest first (log 6). -/
def handed (ev : Nat → Byte → ExtEvent) (vs : List Byte) : List ExtEvent :=
  (vs.zipIdx.map fun p => ev p.2 p.1).reverse

/-! ### The invariant -/

/-- The arrays of the cartridge are canonical and inside their sizes, and an MBC2 cell holds four bits
(20_memory R110, R113, R114, R126). -/
def Cart.inv (c : Cart) : Bool :=
  c.rom.wf && c.rom.below (c.romBanks * 0x4000) && decide (0 < c.romBanks) &&
  c.ram.wf && c.ram.below c.ramLen &&
  (!c.mbc.isMbc2 || (decide (c.ramLen = 512) && c.ram.all fun e => decide (e.2.toNat < 16)))

/-- What every step keeps: canonical arrays inside their sizes, a zero low nibble of `F`
(10_state R24), never both halted and stopped, an armed `HALT` bug only where the parameter asks for
it. -/
def State.inv (s : State) : Bool :=
  s.cart.inv && s.wram.wf && s.wram.below 8192 && s.hram.wf && s.hram.below 127 &&
  s.regs.f &&& 0x0F#8 == 0x00#8 && !(s.halted && s.stopped) &&
  (!s.haltBugArmed || s.params.haltBug)

/-! ### The wiring of a built machine -/

/-- The default map and every device slot filled, the boot ROM's too while the overlay is on: what
`build` makes of the default `MAP` (70_reset_and_hazards R400, 20_memory R75). -/
def State.wired (s : State) : Bool :=
  s.map == defaultMap && (builtSlots s.bootOverlay).all fun d => s.slots.contains d

/-! ### Runs -/

/-- `t` is what some number of steps makes of `s`. -/
inductive Reaches : State → State → Prop where
  | refl (s : State) : Reaches s s
  | tail (s t u : State) : Reaches s t → step t = .next u → Reaches s u

/-- A run from `s` is safe: no state it reaches records a fatal condition (60_exceptions R360). -/
def State.safe (s : State) : Prop := ∀ t, Reaches s t → t.fatal = none

end Sys2Proof.Machine

namespace Sys2Proof

open Machine

/-! ### The field values of the encodings (30_encoding R155), as the statements say them -/

/-- The code of a register in table `r`. -/
def Reg8.code : Reg8 → Nat
  | .b => 0 | .c => 1 | .d => 2 | .e => 3 | .h => 4 | .l => 5 | .a => 7

/-- The code of an operand in table `r`. -/
def Loc.code : Loc → Nat
  | .reg r => r.code
  | .atHl => 6

/-- The code in table `rr`. -/
def Reg16.code : Reg16 → Nat
  | .bc => 0 | .de => 1 | .hl => 2 | .sp => 3

/-- The code in table `qq`. -/
def StackReg.code : StackReg → Nat
  | .bc => 0 | .de => 1 | .hl => 2 | .af => 3

/-- The code in table `cc`. -/
def Cond.code : Cond → Nat
  | .nz => 0 | .z => 1 | .nc => 2 | .c => 3

/-- The code in table `alu`. -/
def AluOp.code : AluOp → Nat
  | .add => 0 | .adc => 1 | .sub => 2 | .sbc => 3 | .and => 4 | .xor => 5 | .or => 6 | .cp => 7

/-- The code in table `rot`. -/
def RotOp.code : RotOp → Nat
  | .rlc => 0 | .rrc => 1 | .rl => 2 | .rr => 3 | .sla => 4 | .sra => 5 | .swap => 6 | .srl => 7

/-- A byte of an encoding, from its number. -/
abbrev byte (n : Nat) : Byte := BitVec.ofNat 8 n

/-! ### Groups of instructions, from their encodings -/

/-- The instruction writes some flag (the rows of 10_state R46). -/
def Instr.writesFlags (i : Instr) : Bool :=
  match encode i with
  | [] => false
  | b0 :: rest =>
    if b0 == 0xCB#8 then rest.any fun b1 => decide (b1.toNat < 0x80)
    else (decide (0x80 ≤ b0.toNat) && decide (b0.toNat ≤ 0xBF)) ||
      [0xC6#8, 0x04#8, 0x05#8, 0x07#8].contains (b0 &&& 0xC7#8) ||
      b0 &&& 0xCF#8 == 0x09#8 || [0xE8#8, 0xF8#8, 0xF1#8].contains b0

/-- The instruction can redirect control flow: jumps, calls, returns, restarts (10_state R28). -/
def Instr.redirects (i : Instr) : Bool :=
  match encode i with
  | [] => false
  | b0 :: _ =>
    [0xC3#8, 0xE9#8, 0x18#8, 0xCD#8, 0xC9#8, 0xD9#8].contains b0 || b0 &&& 0xC7#8 == 0xC7#8 ||
      [0xC2#8, 0x20#8, 0xC4#8, 0xC0#8].contains (b0 &&& 0xE7#8)

/-- The address a one-byte store of the instruction goes to (40_load8 R184 to R199, 42_alu8 R240, R242,
44_rotate_shift_bit R280); `none` for an instruction that stores no byte or two. -/
def Instr.storeAddr (i : Instr) (s : State) : Option Word :=
  match i with
  | .ldAtBcA => some s.bc
  | .ldAtDeA => some s.de
  | .ldAtNnA nn => some nn
  | .ldhAtCA => some (0xFF00#16 + zext16 s.regs.c)
  | .ldhAtNA n => some (0xFF00#16 + zext16 n)
  | .ldAtHlB | .ldAtHlC | .ldAtHlD | .ldAtHlE | .ldAtHlH | .ldAtHlL | .ldAtHlA | .ldAtHlN _
  | .ldAtHlIncA | .ldAtHlDecA | .incAtHl | .decAtHl
  | .rlcAtHl | .rrcAtHl | .rlAtHl | .rrAtHl | .slaAtHl | .sraAtHl | .swapAtHl | .srlAtHl
  | .res0AtHl | .res1AtHl | .res2AtHl | .res3AtHl | .res4AtHl | .res5AtHl | .res6AtHl | .res7AtHl
  | .set0AtHl | .set1AtHl | .set2AtHl | .set3AtHl | .set4AtHl | .set5AtHl | .set6AtHl
  | .set7AtHl => some s.hl
  | _ => none

/-- The lower of the two addresses an instruction stores a word to: `SP - 2` for `PUSH`, `CALL`, a taken
`CALL cc` and `RST`, `nn` for `LD (nn),SP` (41_load16 R210, R212, 45_control_flow R316, R317, R321). -/
def Instr.storeAddr16 (i : Instr) (s : State) : Option Word :=
  match i with
  | .ldAtNnSp nn => some nn
  | .pushBc | .pushDe | .pushHl | .pushAf | .callNn _ => some (s.regs.sp - 2#16)
  | .rst00 | .rst08 | .rst10 | .rst18 | .rst20 | .rst28 | .rst30 | .rst38 =>
    some (s.regs.sp - 2#16)
  | .callNzNn _ => if s.flagZ then none else some (s.regs.sp - 2#16)
  | .callZNn _ => if s.flagZ then some (s.regs.sp - 2#16) else none
  | .callNcNn _ => if s.flagC then none else some (s.regs.sp - 2#16)
  | .callCNn _ => if s.flagC then some (s.regs.sp - 2#16) else none
  | _ => none

end Sys2Proof
end

