-- ==== Sys2Proof/Certificates/Slice0/Obligations.lean ====
section
/-! DEFINITION. The statements for the provers, from the numbered rules of spec/. Where a statement says
`busRead a s = .done v u`, the byte at `a` is readable, `v` is that byte and `u` the state after the
read; `busWrite a v s = .done () u` likewise. `s.ends g p n` is `s` with the register file `g`, `pc`
at `p` and `n` cycles reported, so that an equation with it states the frame too. -/

open Sys2Proof Sys2Proof.Machine

/-! ### Reset and build -/

/-- `State.reset`, spelled out where 10_state R50 gives a value; it is what `build` makes of the blank
image (the image and the parameters are the model's choice: log 2, log 10). -/
def Obligations.ResetIsBuildOfBlankImage : Prop :=
  build { rom := blankImage } = .ok State.reset ∧
  State.reset.regs = ⟨0#8, 0#8, 0#8, 0#8, 0#8, 0#8, 0#8, 0#8, 0#16, 0#16⟩ ∧
  State.reset.ime = false ∧ State.reset.imeSched = false ∧ State.reset.halted = false ∧
  State.reset.stopped = false ∧ State.reset.fatal = none ∧ State.reset.intEnable = 0#8 ∧
  State.reset.intRequest = 0#8 ∧ State.reset.map = defaultMap

/-- 70_reset_and_hazards R391 to R393, 20_memory R132, R133: the two launch states of every machine built;
`dump_ram` gives back what seeded the RAM, and what is dumped of a machine seeds the same RAM. That an MBC2
cell keeps four bits of `RAM_INIT` is the model's reading of 20_memory R126 (log 20). -/
def Obligations.LaunchStates : Prop :=
  (∀ (x : BuildInput) (s : State), build x = .ok s →
    (x.launch = .cold → s.regs = ⟨0#8, 0#8, 0#8, 0#8, 0#8, 0#8, 0#8, 0#8, 0#16, 0#16⟩ ∧
      s.flagZ = false ∧ s.flagN = false ∧ s.flagH = false ∧ s.flagC = false ∧
      (s.bootOverlay = true ↔ x.bootRom ≠ none)) ∧
    (x.launch = .postBoot → s.bootOverlay = false ∧
      s.regs = match x.params.revision with
        | .dmg => ⟨0x01#8, 0xB0#8, 0x00#8, 0x13#8, 0x00#8, 0xD8#8, 0x01#8, 0x4D#8, 0xFFFE#16,
            0x0100#16⟩
        | .cgb => ⟨0x11#8, 0x80#8, 0x00#8, 0x00#8, 0xFF#8, 0x56#8, 0x00#8, 0x0D#8, 0xFFFE#16,
            0x0100#16⟩) ∧
    s.ime = false ∧ s.imeSched = false ∧ s.halted = false ∧ s.stopped = false ∧
    s.fatal = none ∧ s.intEnable = 0#8 ∧ s.intRequest = 0#8 ∧
    (s.cart.mbc = .fixed ∨ s.cart.mbc = .familyA false 0#5 0#2 0#1 ∨
      s.cart.mbc = .familyB false 0#7 0#8 ∨ s.cart.mbc = .familyC false 1#8 0#1 0#4 ∨
      s.cart.mbc = .mbc2 false 0#4) ∧
    (∀ k, s.wram.read k = 0#8 ∧ s.hram.read k = 0#8) ∧
    (x.ramInit = none → dumpRam s = List.replicate s.cart.ramLen 0#8) ∧
    (∀ img, x.ramInit = some img → img.len = s.cart.ramLen ∧
      dumpRam s = (List.range img.len).map fun k =>
        if s.cart.mbc.isMbc2 then img.array.read k &&& 0x0F#8 else img.array.read k)) ∧
  (∀ (s : State), s.cart.inv = true →
    loadRam s.cart.mbc.variant s.cart.ramLen
      (some ⟨(dumpRam s).length, Memory.ofBytes 0 (dumpRam s)⟩) = .ok s.cart.ram)

/-- 70_reset_and_hazards R400 steps 1 to 8, 60_exceptions R365, 20_memory R110 to R114, R133: for every
image whether it is a load-time fatal, and which, or what the built machine is. That the first test of
R400 answers where an image has several faults is the model's reading (log 19). That the slot of `BootRom`
is filled exactly when a boot ROM is given is the model's choice between step 7 of R400 and the sentences of
R400 and 20_memory R71 that every slot is filled (log 24). -/
def Obligations.BuildChecksTheImage : Prop :=
  ∀ (x : BuildInput) (t r m : Byte), x.rom.array.read 0x0147 = t → x.rom.array.read 0x0148 = r →
    x.rom.array.read 0x0149 = m →
    (x.rom.len < 0x8000 → build x = .error (.malformedCartridge .imageTooShort)) ∧
    (0x8000 ≤ x.rom.len → (∀ v, ¬TypeNames x.params t v) → build x = .error (.unknownCartridgeType t)) ∧
    ([0x04, 0x07, 0x0A, 0x0B, 0x0C, 0x0D, 0x0E, 0x14, 0x15, 0x16, 0x17, 0x18].contains t.toNat = true ∨
      0x1E < t.toNat ∨ ((t.toNat = 0x05 ∨ t.toNat = 0x06) ∧ x.params.mbc2Enabled = false) →
      ∀ v, ¬TypeNames x.params t v) ∧
    (∀ v, 0x8000 ≤ x.rom.len → TypeNames x.params t v →
      (8 < r.toNat → build x = .error (.malformedCartridge (.romSizeCode r))) ∧
      (r.toNat ≤ 8 → x.rom.len ≠ 2 * 2 ^ r.toNat * 0x4000 →
        build x = .error (.malformedCartridge .imageLength)) ∧
      (r.toNat ≤ 8 → x.rom.len = 2 * 2 ^ r.toNat * 0x4000 →
        (v ≠ .mbc2 → 5 < m.toNat → build x = .error (.malformedCartridge (.ramSizeCode m))) ∧
        ∀ n, (if v = .mbc2 then n = 512 else (m.toNat, n) ∈ ramSizeRows) →
          (∀ img, x.ramInit = some img → img.len ≠ n →
            build x = .error (.malformedCartridge .ramInitLength)) ∧
          ((∀ img, x.ramInit = some img → img.len = n) → ∃ s, build x = .ok s ∧
            s.cart.rom = x.rom.array ∧ s.cart.mbc.variant = v ∧
            s.cart.romBanks = 2 * 2 ^ r.toNat ∧ s.cart.ramLen = n ∧
            (∀ d, d ∈ s.slots ↔ d ≠ .bootRom ∨ x.bootRom ≠ none) ∧ s.map = x.map ∧
            s.params = x.params)))

/-- 60_exceptions R361, R363; 20_memory R70, R71: the routing faults, and that the later registration
owns an address. -/
def Obligations.RoutingRaisesTheFatals : Prop :=
  (∀ (a : Word) (s : State), s.getId a = none → busRead a s = .raise (.unmappedAddress a) s) ∧
  (∀ (a : Word) (v : Byte) (s : State), s.getId a = none → intercept s.params.revision a = none →
    busWrite a v s = .raise (.unmappedAddress a) s) ∧
  (∀ (a : Word) (d : DeviceId) (s : State), s.getId a = some d → s.slots.contains d = false →
    busRead a s = .raise (.deviceMissing d) s) ∧
  (∀ (a : Word) (v : Byte) (d : DeviceId) (s : State), s.getId a = some d →
    s.slots.contains d = false → intercept s.params.revision a = none →
    busWrite a v s = .raise (.deviceMissing d) s) ∧
  (∀ (rs : List Registration) (r : Registration) (a : Word),
    mapLookup (rs ++ [r]) a = if r.start ≤ a.toNat ∧ a.toNat < r.start + r.length then some r.dev
      else mapLookup rs a)

/-! ### The register file -/

/-- 10_state R20 to R25: a register keeps what was written, the others stay; a pair written reads back,
`AF` with the low nibble gone, and its halves are the two bytes; the flags are packed into the high
nibble of `F`, the low nibble is zero after every write, and nothing else changes. -/
def Obligations.RegisterFileLaws : Prop :=
  (∀ (s : State) (r r' : Reg8) (v : Byte),
    (s.setReg r v).getReg r' = if r' = r then v else s.getReg r') ∧
  (∀ (s : State) (rr : Reg16) (v : Word), (s.setPair rr v).getPair rr = v) ∧
  (∀ (s : State) (v : Word), (s.setStackReg .af v).getStackReg .af = v &&& 0xFFF0#16) ∧
  (∀ (s : State) (v : Word) (hi lo : Byte), hi.toNat = v.toNat / 256 → lo.toNat = v.toNat % 256 →
    s.setPair .bc v = { s with regs := { s.regs with b := hi, c := lo } } ∧
    s.setPair .de v = { s with regs := { s.regs with d := hi, e := lo } } ∧
    s.setPair .hl v = { s with regs := { s.regs with h := hi, l := lo } } ∧
    s.setStackReg .af v =
      { s with regs := { s.regs with a := hi, f := byte (lo.toNat / 16 * 16) } } ∧
    s.setPair .sp v = { s with regs := { s.regs with sp := v } }) ∧
  (∀ (s : State), s.bc.toNat = s.regs.b.toNat * 256 + s.regs.c.toNat ∧
    s.de.toNat = s.regs.d.toNat * 256 + s.regs.e.toNat ∧
    s.hl.toNat = s.regs.h.toNat * 256 + s.regs.l.toNat ∧
    s.af.toNat = s.regs.a.toNat * 256 + s.regs.f.toNat) ∧
  (∀ (s : State) (z n h c : Bool), s.setFlags z n h c = { s with regs := { s.regs with
    f := byte (z.toNat * 128 + n.toNat * 64 + h.toNat * 32 + c.toNat * 16) } }) ∧
  (∀ (s : State) (z n h c : Bool), (s.setFlags z n h c).flagZ = z ∧
    (s.setFlags z n h c).flagN = n ∧ (s.setFlags z n h c).flagH = h ∧
    (s.setFlags z n h c).flagC = c) ∧
  (∀ (s : State) (v : Byte),
    s.setF v = { s with regs := { s.regs with f := byte (v.toNat / 16 * 16) } })

/-! ### 8-bit loads -/

/-- 40_load8 R181, R182, R183: the encoding and the effect of each form. -/
def Obligations.LoadRegisterForms : Prop :=
  (∀ (r r' : Reg8) (n : Byte),
    encode (.ldReg r r') = [byte (0x40 + 8 * r.code + r'.code)] ∧
    encode (.ldImm r n) = [byte (0x06 + 8 * r.code), n] ∧
    encode (.ldFromHl r) = [byte (0x46 + 8 * r.code)]) ∧
  (∀ (r r' : Reg8) (s : State),
    exec (.ldReg r r') s = .next (s.ends (s.regs.set r (s.getReg r')) (s.next 1) 1)) ∧
  (∀ (r : Reg8) (n : Byte) (s : State),
    exec (.ldImm r n) s = .next (s.ends (s.regs.set r n) (s.next 2) 2)) ∧
  (∀ (r : Reg8) (s u : State) (v : Byte), busRead s.hl s = .done v u →
    exec (.ldFromHl r) s = .next (u.ends (s.regs.set r v) (s.next 1) 2))

/-- 40_load8 R184, R185. -/
def Obligations.StoreRegisterForms : Prop :=
  (∀ (r : Reg8) (n : Byte), encode (.ldToHl r) = [byte (0x70 + r.code)] ∧
    encode (.ldAtHlN n) = [0x36#8, n]) ∧
  (∀ (r : Reg8) (s u : State), busWrite s.hl (s.getReg r) s = .done () u →
    exec (.ldToHl r) s = .next (u.ends s.regs (s.next 1) 2)) ∧
  (∀ (n : Byte) (s u : State), busWrite s.hl n s = .done () u →
    exec (.ldAtHlN n) s = .next (u.ends s.regs (s.next 2) 3))

/-- 40_load8 R186, R187, R190, R192, R194. -/
def Obligations.LoadAccumulatorForms : Prop :=
  ∀ (s u : State) (v n : Byte) (nn : Word),
    (encode .ldAAtBc = [0x0A#8] ∧ encode .ldAAtDe = [0x1A#8] ∧
      encode (.ldAAtNn nn) = [0xFA#8, byte (nn.toNat % 256), byte (nn.toNat / 256)] ∧
      encode .ldhAAtC = [0xF2#8] ∧ encode (.ldhAAtN n) = [0xF0#8, n]) ∧
    (busRead s.bc s = .done v u →
      exec .ldAAtBc s = .next (u.ends { s.regs with a := v } (s.next 1) 2)) ∧
    (busRead s.de s = .done v u →
      exec .ldAAtDe s = .next (u.ends { s.regs with a := v } (s.next 1) 2)) ∧
    (busRead nn s = .done v u →
      exec (.ldAAtNn nn) s = .next (u.ends { s.regs with a := v } (s.next 3) 4)) ∧
    (busRead (BitVec.ofNat 16 (0xFF00 + s.regs.c.toNat)) s = .done v u →
      exec .ldhAAtC s = .next (u.ends { s.regs with a := v } (s.next 1) 2)) ∧
    (busRead (BitVec.ofNat 16 (0xFF00 + n.toNat)) s = .done v u →
      exec (.ldhAAtN n) s = .next (u.ends { s.regs with a := v } (s.next 2) 3))

/-- 40_load8 R188, R189, R191, R193, R195. -/
def Obligations.StoreAccumulatorForms : Prop :=
  ∀ (s u : State) (n : Byte) (nn : Word),
    (encode .ldAtBcA = [0x02#8] ∧ encode .ldAtDeA = [0x12#8] ∧
      encode (.ldAtNnA nn) = [0xEA#8, byte (nn.toNat % 256), byte (nn.toNat / 256)] ∧
      encode .ldhAtCA = [0xE2#8] ∧ encode (.ldhAtNA n) = [0xE0#8, n]) ∧
    (busWrite s.bc s.regs.a s = .done () u →
      exec .ldAtBcA s = .next (u.ends s.regs (s.next 1) 2)) ∧
    (busWrite s.de s.regs.a s = .done () u →
      exec .ldAtDeA s = .next (u.ends s.regs (s.next 1) 2)) ∧
    (busWrite nn s.regs.a s = .done () u →
      exec (.ldAtNnA nn) s = .next (u.ends s.regs (s.next 3) 4)) ∧
    (busWrite (BitVec.ofNat 16 (0xFF00 + s.regs.c.toNat)) s.regs.a s = .done () u →
      exec .ldhAtCA s = .next (u.ends s.regs (s.next 1) 2)) ∧
    (busWrite (BitVec.ofNat 16 (0xFF00 + n.toNat)) s.regs.a s = .done () u →
      exec (.ldhAtNA n) s = .next (u.ends s.regs (s.next 2) 3))

/-- 40_load8 R196 to R199: the pointer moves after the access, mod 65536; if the access is fatal it does
not move. -/
def Obligations.AutoPointerLoads : Prop :=
  (encode .ldAAtHlInc = [0x2A#8] ∧ encode .ldAAtHlDec = [0x3A#8] ∧ encode .ldAtHlIncA = [0x22#8] ∧
    encode .ldAtHlDecA = [0x32#8]) ∧
  ∀ (s u : State) (v : Byte) (k : Fatal),
    (busRead s.hl s = .done v u →
      exec .ldAAtHlInc s = .next (u.ends { s.regs with
        a := v, h := hiByte (s.hl + 1#16), l := loByte (s.hl + 1#16) } (s.next 1) 2) ∧
      exec .ldAAtHlDec s = .next (u.ends { s.regs with
        a := v, h := hiByte (s.hl - 1#16), l := loByte (s.hl - 1#16) } (s.next 1) 2)) ∧
    (busRead s.hl s = .raise k u →
      exec .ldAAtHlInc s = .next { s with fatal := some k } ∧
      exec .ldAAtHlDec s = .next { s with fatal := some k }) ∧
    (busWrite s.hl s.regs.a s = .done () u →
      exec .ldAtHlIncA s = .next (u.ends { s.regs with
        h := hiByte (s.hl + 1#16), l := loByte (s.hl + 1#16) } (s.next 1) 2) ∧
      exec .ldAtHlDecA s = .next (u.ends { s.regs with
        h := hiByte (s.hl - 1#16), l := loByte (s.hl - 1#16) } (s.next 1) 2)) ∧
    (busWrite s.hl s.regs.a s = .raise k u →
      exec .ldAtHlIncA s = .next { u with fatal := some k } ∧
      exec .ldAtHlDecA s = .next { u with fatal := some k } ∧ u.regs = s.regs)

/-! ### 16-bit loads and the stack -/

/-- 41_load16 R211, R213. -/
def Obligations.LoadPairForms : Prop :=
  (∀ (rr : Reg16) (nn : Word),
    encode (.ldPair rr nn) =
      [byte (0x01 + 16 * rr.code), byte (nn.toNat % 256), byte (nn.toNat / 256)]) ∧
  encode .ldSpHl = [0xF9#8] ∧
  (∀ (nn : Word) (s : State),
    exec (.ldPair .bc nn) s =
      .next (s.ends { s.regs with b := hiByte nn, c := loByte nn } (s.next 3) 3) ∧
    exec (.ldPair .de nn) s =
      .next (s.ends { s.regs with d := hiByte nn, e := loByte nn } (s.next 3) 3) ∧
    exec (.ldPair .hl nn) s =
      .next (s.ends { s.regs with h := hiByte nn, l := loByte nn } (s.next 3) 3) ∧
    exec (.ldPair .sp nn) s = .next (s.ends { s.regs with sp := nn } (s.next 3) 3)) ∧
  (∀ (s : State), exec .ldSpHl s = .next (s.ends { s.regs with sp := s.hl } (s.next 1) 2))

/-- 41_load16 R214 and 43_alu16 R274: the signed offset, and the flags of the unsigned sum of the low
byte of `SP` and the raw offset byte. -/
def Obligations.StackPointerOffsetForms : Prop :=
  (∀ (e : Byte), encode (.ldHlSpE e) = [0xF8#8, e] ∧ encode (.addSpE e) = [0xE8#8, e]) ∧
  ∀ (s : State) (e : Byte) (r : Word) (h c : Bool),
    r = BitVec.ofInt 16 (s.regs.sp.toNat + e.toInt) →
    h = decide (s.regs.sp.toNat % 16 + e.toNat % 16 > 15) →
    c = decide (s.regs.sp.toNat % 256 + e.toNat > 255) →
    exec (.ldHlSpE e) s = .next (s.ends
      ({ s.regs with h := hiByte r, l := loByte r }.withFlags false false h c) (s.next 2) 3) ∧
    exec (.addSpE e) s = .next (s.ends
      ({ s.regs with sp := r }.withFlags false false h c) (s.next 2) 4)

/-- 41_load16 R212, R215, R210: two byte writes, the high byte to the higher address first. -/
def Obligations.WordStoreForms : Prop :=
  (∀ (nn : Word),
    encode (.ldAtNnSp nn) = [0x08#8, byte (nn.toNat % 256), byte (nn.toNat / 256)]) ∧
  (∀ (qq : StackReg), encode (.push qq) = [byte (0xC5 + 16 * qq.code)]) ∧
  (∀ (nn : Word) (s u w : State), busWrite (nn + 1#16) (hiByte s.regs.sp) s = .done () u →
    busWrite nn (loByte s.regs.sp) u = .done () w →
    exec (.ldAtNnSp nn) s = .next (w.ends s.regs (s.next 3) 5)) ∧
  (∀ (qq : StackReg) (s w : State), Pushes (s.getStackReg qq) s w →
    exec (.push qq) s = .next (w.ends { s.regs with sp := s.regs.sp - 2#16 } (s.next 1) 4))

/-- 41_load16 R216: `POP AF` forces the low nibble of `F` to 0. -/
def Obligations.PopForms : Prop :=
  (∀ (qq : StackReg), encode (.pop qq) = [byte (0xC1 + 16 * qq.code)]) ∧
  ∀ (s w : State) (v : Word), Pops s v w →
    exec (.pop .bc) s = .next (w.ends { s.regs with
      b := hiByte v, c := loByte v, sp := s.regs.sp + 2#16 } (s.next 1) 3) ∧
    exec (.pop .de) s = .next (w.ends { s.regs with
      d := hiByte v, e := loByte v, sp := s.regs.sp + 2#16 } (s.next 1) 3) ∧
    exec (.pop .hl) s = .next (w.ends { s.regs with
      h := hiByte v, l := loByte v, sp := s.regs.sp + 2#16 } (s.next 1) 3) ∧
    exec (.pop .af) s = .next (w.ends { s.regs with
      a := hiByte v, f := BitVec.ofNat 8 (v.toNat % 256 / 16 * 16),
      sp := s.regs.sp + 2#16 } (s.next 1) 3)

/-- 41_load16 R210: `pop16` after `push16(v)` returns `v` and restores `SP` where both addresses hold
ordinary RAM; little-endian. -/
def Obligations.PushThenPopRestores : Prop :=
  ∀ (s : State) (qq qq' : StackReg), s.inv = true → s.inRam (s.regs.sp - 1#16) →
    s.inRam (s.regs.sp - 2#16) →
    ∃ t u, exec (.push qq) s = .next t ∧
      t.peek t.regs.sp = some (loByte (s.getStackReg qq)) ∧
      t.peek (t.regs.sp + 1#16) = some (hiByte (s.getStackReg qq)) ∧
      exec (.pop qq') t = .next u ∧ u.regs.sp = s.regs.sp ∧
      u.getStackReg qq' =
        if qq' = .af then s.getStackReg qq &&& 0xFFF0#16 else s.getStackReg qq

/-! ### 8-bit arithmetic and logic -/

/-- 42_alu8 R230, R231, R232: `ADD A,x` and `ADC A,x` on their three operand forms. -/
def Obligations.AddForms : Prop :=
  ∀ (s u : State) (x : Loc) (op : AluOp) (v n : Byte) (ci : Nat),
    (op = .add ∧ ci = 0) ∨ (op = .adc ∧ ci = s.flagC.toNat) →
    let after := fun (v : Byte) => (s.regs.set .a (BitVec.ofNat 8
      (s.regs.a.toNat + v.toNat + ci))).withFlags
        (decide ((s.regs.a.toNat + v.toNat + ci) % 256 = 0)) false
        (decide (s.regs.a.toNat % 16 + v.toNat % 16 + ci > 15))
        (decide (s.regs.a.toNat + v.toNat + ci > 255))
    encode (.alu op x) = [byte (0x80 + 8 * op.code + x.code)] ∧
    encode (.aluImm op n) = [byte (0xC6 + 8 * op.code), n] ∧
    (readLoc x s = .done v u →
      exec (.alu op x) s = .next (u.ends (after v) (s.next 1) (if x = .atHl then 2 else 1))) ∧
    exec (.aluImm op n) s = .next (s.ends (after n) (s.next 2) 2)

/-- 42_alu8 R233, R234, R238: `SUB x`, `SBC A,x`, and `CP x`, which leaves `A`. -/
def Obligations.SubtractForms : Prop :=
  ∀ (s u : State) (x : Loc) (op : AluOp) (v n : Byte) (ci : Nat),
    (op = .sub ∧ ci = 0) ∨ (op = .sbc ∧ ci = s.flagC.toNat) ∨ (op = .cp ∧ ci = 0) →
    let after := fun (v : Byte) => (s.regs.set .a (if op = .cp then s.regs.a else
        BitVec.ofNat 8 (s.regs.a.toNat + 512 - v.toNat - ci))).withFlags
        (decide ((s.regs.a.toNat + 512 - v.toNat - ci) % 256 = 0)) true
        (decide (s.regs.a.toNat % 16 < v.toNat % 16 + ci))
        (decide (s.regs.a.toNat < v.toNat + ci))
    encode (.alu op x) = [byte (0x80 + 8 * op.code + x.code)] ∧
    encode (.aluImm op n) = [byte (0xC6 + 8 * op.code), n] ∧
    (readLoc x s = .done v u →
      exec (.alu op x) s = .next (u.ends (after v) (s.next 1) (if x = .atHl then 2 else 1))) ∧
    exec (.aluImm op n) s = .next (s.ends (after n) (s.next 2) 2)

/-- 42_alu8 R235, R236, R237: `AND x`, `XOR x`, `OR x`. -/
def Obligations.LogicForms : Prop :=
  ∀ (s u : State) (x : Loc) (op : AluOp) (v n : Byte) (f : Byte → Byte → Byte) (h : Bool),
    (op = .and ∧ f = (fun a b => a &&& b) ∧ h = true) ∨
      (op = .xor ∧ f = (fun a b => a ^^^ b) ∧ h = false) ∨
      (op = .or ∧ f = (fun a b => a ||| b) ∧ h = false) →
    let after := fun (v : Byte) => (s.regs.set .a (f s.regs.a v)).withFlags
      (decide (f s.regs.a v = 0#8)) false h false
    encode (.alu op x) = [byte (0x80 + 8 * op.code + x.code)] ∧
    encode (.aluImm op n) = [byte (0xC6 + 8 * op.code), n] ∧
    (readLoc x s = .done v u →
      exec (.alu op x) s = .next (u.ends (after v) (s.next 1) (if x = .atHl then 2 else 1))) ∧
    exec (.aluImm op n) s = .next (s.ends (after n) (s.next 2) 2)

/-- 42_alu8 R239 to R242: the carry stays; if the write is fatal the flags are not updated. -/
def Obligations.IncrementDecrementForms : Prop :=
  ∀ (s u w : State) (r : Reg8) (v : Byte) (k : Fatal),
    (encode (.incReg r) = [byte (0x04 + 8 * r.code)] ∧
      encode (.decReg r) = [byte (0x05 + 8 * r.code)] ∧ encode .incAtHl = [0x34#8] ∧
      encode .decAtHl = [0x35#8]) ∧
    let up := fun (v : Byte) => BitVec.ofNat 8 (v.toNat + 1)
    let down := fun (v : Byte) => BitVec.ofNat 8 (v.toNat + 255)
    exec (.incReg r) s = .next (s.ends ((s.regs.set r (up (s.getReg r))).withFlags
      (decide (s.getReg r = 0xFF#8)) false (decide ((s.getReg r).toNat % 16 = 15)) s.flagC)
      (s.next 1) 1) ∧
    exec (.decReg r) s = .next (s.ends ((s.regs.set r (down (s.getReg r))).withFlags
      (decide (s.getReg r = 0x01#8)) true (decide ((s.getReg r).toNat % 16 = 0)) s.flagC)
      (s.next 1) 1) ∧
    (busRead s.hl s = .done v u → busWrite s.hl (up v) u = .done () w →
      exec .incAtHl s = .next (w.ends (s.regs.withFlags (decide (v = 0xFF#8)) false
        (decide (v.toNat % 16 = 15)) s.flagC) (s.next 1) 3)) ∧
    (busRead s.hl s = .done v u → busWrite s.hl (down v) u = .done () w →
      exec .decAtHl s = .next (w.ends (s.regs.withFlags (decide (v = 0x01#8)) true
        (decide (v.toNat % 16 = 0)) s.flagC) (s.next 1) 3)) ∧
    (busRead s.hl s = .done v u → busWrite s.hl (up v) u = .raise k w →
      exec .incAtHl s = .next { w with fatal := some k } ∧ w.regs = s.regs) ∧
    (busRead s.hl s = .done v u → busWrite s.hl (down v) u = .raise k w →
      exec .decAtHl s = .next { w with fatal := some k } ∧ w.regs = s.regs)

/-- 42_alu8 R243. -/
def Obligations.DecimalAdjust : Prop :=
  encode .daa = [0x27#8] ∧
  ∀ (s : State) (r : Nat) (c : Bool),
    (s.flagN = false →
      (c = true ↔ s.flagC = true ∨ s.regs.a.toNat > 0x99) ∧
      r = s.regs.a.toNat + (if c then 0x60 else 0) +
        (if s.flagH = true ∨ s.regs.a.toNat % 16 > 9 then 6 else 0)) →
    (s.flagN = true →
      c = s.flagC ∧
      r + (if c then 0x60 else 0) + (if s.flagH then 6 else 0) = s.regs.a.toNat + 256) →
    exec .daa s = .next (s.ends ((s.regs.set .a (BitVec.ofNat 8 r)).withFlags
      (decide (r % 256 = 0)) s.flagN false c) (s.next 1) 1)

/-- What `DAA` is for (42_alu8 R243): after `ADD` or `ADC`, and after `SUB` or `SBC`, of two packed BCD
numbers, it leaves the packed BCD result, with the decimal carry or borrow in `C`. -/
def Obligations.DecimalArithmetic : Prop :=
  ∀ (s : State) (r : Reg8) (x y ci : Nat) (op : AluOp), x < 100 → y < 100 →
    let bcd := fun (k : Nat) => BitVec.ofNat 8 (k / 10 * 16 + k % 10)
    s.regs.a = bcd x → s.getReg r = bcd y →
    ((op = .add ∨ op = .sub) ∧ ci = 0) ∨ ((op = .adc ∨ op = .sbc) ∧ ci = s.flagC.toNat) →
    ∃ t u, exec (.alu op (.reg r)) s = .next t ∧ exec .daa t = .next u ∧
      (op = .add ∨ op = .adc →
        u.regs.a = bcd ((x + y + ci) % 100) ∧ u.flagC = decide (x + y + ci > 99)) ∧
      (op = .sub ∨ op = .sbc →
        u.regs.a = bcd ((x + 200 - y - ci) % 100) ∧ u.flagC = decide (x < y + ci))

/-- 42_alu8 R244, R245, R246. -/
def Obligations.FlagOperations : Prop :=
  (encode .cpl = [0x2F#8] ∧ encode .scf = [0x37#8] ∧ encode .ccf = [0x3F#8]) ∧
  ∀ (s : State),
    exec .cpl s = .next (s.ends ((s.regs.set .a (BitVec.ofNat 8 (255 - s.regs.a.toNat))).withFlags
      s.flagZ true true s.flagC) (s.next 1) 1) ∧
    exec .scf s = .next (s.ends (s.regs.withFlags s.flagZ false false true) (s.next 1) 1) ∧
    exec .ccf s = .next (s.ends (s.regs.withFlags s.flagZ false false (!s.flagC)) (s.next 1) 1)

/-! ### 16-bit arithmetic -/

/-- 43_alu16 R271, R272, R273. -/
def Obligations.PairArithmetic : Prop :=
  ∀ (s : State) (rr : Reg16) (r : Word),
    (encode (.addHl rr) = [byte (0x09 + 16 * rr.code)] ∧
      encode (.incPair rr) = [byte (0x03 + 16 * rr.code)] ∧
      encode (.decPair rr) = [byte (0x0B + 16 * rr.code)]) ∧
    (r.toNat = (s.hl.toNat + (s.getPair rr).toNat) % 65536 →
      exec (.addHl rr) s = .next (s.ends ({ s.regs with h := hiByte r, l := loByte r }.withFlags
        s.flagZ false (decide (s.hl.toNat % 4096 + (s.getPair rr).toNat % 4096 > 4095))
        (decide (s.hl.toNat + (s.getPair rr).toNat > 65535))) (s.next 1) 2)) ∧
    (r.toNat = ((s.getPair rr).toNat + 1) % 65536 →
      exec (.incPair rr) s = .next (s.ends (s.setPair rr r).regs (s.next 1) 2)) ∧
    (r.toNat = ((s.getPair rr).toNat + 65535) % 65536 →
      exec (.decPair rr) s = .next (s.ends (s.setPair rr r).regs (s.next 1) 2))

/-! ### Rotates, shifts, bits -/

/-- 44_rotate_shift_bit R281 to R284: `Z` is 0 whatever the result. -/
def Obligations.AccumulatorRotates : Prop :=
  (encode .rlca = [0x07#8] ∧ encode .rrca = [0x0F#8] ∧ encode .rla = [0x17#8] ∧
    encode .rra = [0x1F#8]) ∧
  ∀ (s : State),
    let a := s.regs.a.toNat
    let ci := s.flagC.toNat
    let after := fun (r : Nat) (c : Bool) =>
      s.ends ((s.regs.set .a (BitVec.ofNat 8 r)).withFlags false false false c) (s.next 1) 1
    exec .rlca s = .next (after (2 * a + a / 128) (decide (a ≥ 128))) ∧
    exec .rrca s = .next (after (a / 2 + 128 * (a % 2)) (decide (a % 2 = 1))) ∧
    exec .rla s = .next (after (2 * a + ci) (decide (a ≥ 128))) ∧
    exec .rra s = .next (after (a / 2 + 128 * ci) (decide (a % 2 = 1)))

/-- 44_rotate_shift_bit R280, R285 to R292: on a register or the byte at `x[HL]`. -/
def Obligations.RotateShiftForms : Prop :=
  (∀ (x : Loc) (op : RotOp), encode (.rot op x) = [0xCB#8, byte (8 * op.code + x.code)]) ∧
  ∀ (s u w : State) (x : Loc) (op : RotOp) (v r : Byte) (c : Bool),
    readLoc x s = .done v u →
    (match op with
      | .rlc => r.toNat = (2 * v.toNat + v.toNat / 128) % 256 ∧ c = decide (v.toNat ≥ 128)
      | .rrc => r.toNat = v.toNat / 2 + 128 * (v.toNat % 2) ∧ c = decide (v.toNat % 2 = 1)
      | .rl => r.toNat = (2 * v.toNat + s.flagC.toNat) % 256 ∧ c = decide (v.toNat ≥ 128)
      | .rr => r.toNat = v.toNat / 2 + 128 * s.flagC.toNat ∧ c = decide (v.toNat % 2 = 1)
      | .sla => r.toNat = 2 * v.toNat % 256 ∧ c = decide (v.toNat ≥ 128)
      | .sra => r.toNat = v.toNat / 2 + v.toNat / 128 * 128 ∧ c = decide (v.toNat % 2 = 1)
      | .swap => r.toNat = v.toNat % 16 * 16 + v.toNat / 16 ∧ c = false
      | .srl => r.toNat = v.toNat / 2 ∧ c = decide (v.toNat % 2 = 1)) →
    writeLoc x r u = .done () w →
    exec (.rot op x) s = .next (w.ends (w.regs.withFlags (decide (r = 0#8)) false false c)
      (s.next 2) (if x = .atHl then 4 else 2))

/-- 44_rotate_shift_bit R293. -/
def Obligations.BitTest : Prop :=
  (∀ (x : Loc) (b : Fin 8), encode (.bit b x) = [0xCB#8, byte (0x40 + 8 * b.val + x.code)]) ∧
  ∀ (s u : State) (x : Loc) (b : Fin 8) (v : Byte), readLoc x s = .done v u →
    exec (.bit b x) s = .next (u.ends (s.regs.withFlags (decide (v.toNat / 2 ^ b.val % 2 = 0))
      false true s.flagC) (s.next 2) (if x = .atHl then 3 else 2))

/-- 44_rotate_shift_bit R294, R295. -/
def Obligations.BitResetAndSet : Prop :=
  (∀ (x : Loc) (b : Fin 8), encode (.res b x) = [0xCB#8, byte (0x80 + 8 * b.val + x.code)] ∧
    encode (.setBit b x) = [0xCB#8, byte (0xC0 + 8 * b.val + x.code)]) ∧
  ∀ (s u w : State) (x : Loc) (b : Fin 8) (v r : Byte), readLoc x s = .done v u →
    writeLoc x r u = .done () w →
    ((∀ i < 8, r.getLsbD i = (v.getLsbD i && i != b.val)) →
      exec (.res b x) s = .next (w.ends w.regs (s.next 2) (if x = .atHl then 4 else 2))) ∧
    ((∀ i < 8, r.getLsbD i = (v.getLsbD i || i == b.val)) →
      exec (.setBit b x) s = .next (w.ends w.regs (s.next 2) (if x = .atHl then 4 else 2)))

/-! ### Control flow -/

/-- 45_control_flow R310 to R315: the conditional forms taken and not taken. -/
def Obligations.JumpForms : Prop :=
  (∀ (cc : Cond) (nn : Word) (e : Byte),
    encode (.jpNn nn) = [0xC3#8, byte (nn.toNat % 256), byte (nn.toNat / 256)] ∧
    encode (.jpCc cc nn) =
      [byte (0xC2 + 8 * cc.code), byte (nn.toNat % 256), byte (nn.toNat / 256)] ∧
    encode .jpHl = [0xE9#8] ∧ encode (.jrE e) = [0x18#8, e] ∧
    encode (.jrCc cc e) = [byte (0x20 + 8 * cc.code), e]) ∧
  (∀ (s : State) (nn : Word) (e : Byte),
    exec (.jpNn nn) s = .next (s.ends s.regs nn 4) ∧
    exec .jpHl s = .next (s.ends s.regs s.hl 1) ∧
    exec (.jrE e) s = .next (s.ends s.regs (BitVec.ofInt 16 ((s.next 2).toNat + e.toInt)) 3)) ∧
  (∀ (s : State) (cc : Cond) (nn : Word) (e : Byte) (taken : Bool),
    (match cc with
      | .nz => taken = !s.flagZ
      | .z => taken = s.flagZ
      | .nc => taken = !s.flagC
      | .c => taken = s.flagC) →
    exec (.jpCc cc nn) s =
      .next (if taken then s.ends s.regs nn 4 else s.ends s.regs (s.next 3) 3) ∧
    exec (.jrCc cc e) s =
      .next (if taken then s.ends s.regs (BitVec.ofInt 16 ((s.next 2).toNat + e.toInt)) 3
        else s.ends s.regs (s.next 2) 2))

/-- 45_control_flow R316, R317, R321: the pushed address is that of the following instruction; if the push
is fatal, `pc` is not changed. -/
def Obligations.CallForms : Prop :=
  (∀ (cc : Cond) (nn : Word) (y : Fin 8),
    encode (.callNn nn) = [0xCD#8, byte (nn.toNat % 256), byte (nn.toNat / 256)] ∧
    encode (.callCc cc nn) =
      [byte (0xC4 + 8 * cc.code), byte (nn.toNat % 256), byte (nn.toNat / 256)] ∧
    encode (.rst y) = [byte (0xC7 + 8 * y.val)]) ∧
  (∀ (s w : State) (cc : Cond) (nn : Word) (y : Fin 8) (k : Fatal),
    (push16 (s.next 3) s = .raise k w → w.regs.pc = s.regs.pc ∧
      exec (.callNn nn) s = .next { w with fatal := some k } ∧
      (s.cond cc = true → exec (.callCc cc nn) s = .next { w with fatal := some k })) ∧
    (push16 (s.next 1) s = .raise k w → w.regs.pc = s.regs.pc ∧
      exec (.rst y) s = .next { w with fatal := some k })) ∧
  (∀ (s w : State) (nn : Word), Pushes (s.next 3) s w →
    exec (.callNn nn) s = .next (w.ends { s.regs with sp := s.regs.sp - 2#16 } nn 6)) ∧
  (∀ (s w : State) (cc : Cond) (nn : Word), s.cond cc = true → Pushes (s.next 3) s w →
    exec (.callCc cc nn) s = .next (w.ends { s.regs with sp := s.regs.sp - 2#16 } nn 6)) ∧
  (∀ (s : State) (cc : Cond) (nn : Word), s.cond cc = false →
    exec (.callCc cc nn) s = .next (s.ends s.regs (s.next 3) 3)) ∧
  (∀ (s w : State) (y : Fin 8), Pushes (s.next 1) s w →
    exec (.rst y) s = .next (w.ends { s.regs with sp := s.regs.sp - 2#16 }
      (BitVec.ofNat 16 (8 * y.val)) 4))

/-- 45_control_flow R318, R319, R320: `RETI` opens the gate at once. -/
def Obligations.ReturnForms : Prop :=
  (encode .ret = [0xC9#8] ∧ encode .reti = [0xD9#8] ∧
    ∀ cc : Cond, encode (.retCc cc) = [byte (0xC0 + 8 * cc.code)]) ∧
  (∀ (s w : State) (v : Word), Pops s v w →
    exec .ret s = .next (w.ends { s.regs with sp := s.regs.sp + 2#16 } v 4)) ∧
  (∀ (s w : State) (v : Word) (cc : Cond), s.cond cc = true → Pops s v w →
    exec (.retCc cc) s = .next (w.ends { s.regs with sp := s.regs.sp + 2#16 } v 5)) ∧
  (∀ (s : State) (cc : Cond), s.cond cc = false →
    exec (.retCc cc) s = .next (s.ends s.regs (s.next 1) 2)) ∧
  (∀ (s w : State) (v : Word), Pops s v w →
    exec .reti s = .next { w.ends { s.regs with sp := s.regs.sp + 2#16 } v 4 with ime := true })

/-! ### CPU control, invalid bytes, fatal conditions -/

/-- 46_cpu_control R331 to R335, with the optional `HALT` bug off (log 9). -/
def Obligations.CpuControlForms : Prop :=
  ∀ (s : State) (n : Byte),
    (encode .nop = [0x00#8] ∧ encode .halt = [0x76#8] ∧ encode (.stop n) = [0x10#8, n] ∧
      encode .di = [0xF3#8] ∧ encode .ei = [0xFB#8]) ∧
    exec .nop s = .next (s.ends s.regs (s.next 1) 1) ∧
    (s.params.haltBug = false →
      exec .halt s = .next { s.ends s.regs (s.next 1) 1 with halted := true }) ∧
    exec (.stop n) s = .next { s.ends s.regs (s.next 2) 1 with stopped := true } ∧
    exec .di s = .next { s.ends s.regs (s.next 1) 1 with ime := false, imeSched := false } ∧
    exec .ei s = .next { s.ends s.regs (s.next 1) 1 with imeSched := true }

/-- 46_cpu_control R336: the fatal record holds `pc` and the byte; nothing else changes. -/
def Obligations.InvalidBytesAreFatal : Prop :=
  ∀ (x : BadByte) (b1 b2 : Byte) (s : State),
    decode x.code b1 b2 = .invalid x ∧
    exec (.invalid x) s = .next { s with fatal := some (.invalidOpcode s.regs.pc x.code) }

/-- 40_load8 R180, 60_exceptions R360, 41_load16 R210, R212, R215, 20_memory R63: an instruction whose
access is fatal records it, leaves `pc` and every register but `SP`, which keeps the decrements made before
the write: one where the first write of a push is fatal, two where the second is, none where nothing is
pushed. Where the first of two writes is fatal, the second is not performed. -/
def Obligations.FatalInstructionKeepsPc : Prop :=
  (∀ (i : Instr) (s t : State), s.fatal = none → exec i s = .next t → t.fatal ≠ none →
    t.regs.pc = s.regs.pc ∧ t.regs = { s.regs with sp := t.regs.sp } ∧
    (i.storeAddr16 s = none ∨ (∃ nn, i = .ldAtNnSp nn) → t.regs.sp = s.regs.sp) ∧
    (i.storeAddr16 s ≠ none → (∀ nn, i ≠ .ldAtNnSp nn) →
      t.regs.sp = s.regs.sp - 1#16 ∨ t.regs.sp = s.regs.sp - 2#16) ∧
    t.ime = s.ime ∧ t.imeSched = s.imeSched ∧ t.halted = s.halted ∧ t.stopped = s.stopped) ∧
  (∀ (qq : StackReg) (s u w : State) (hi lo : Byte) (k : Fatal),
    hi = hiByte (s.getStackReg qq) → lo = loByte (s.getStackReg qq) →
    (busWrite (s.regs.sp - 1#16) hi (s.setSp (s.regs.sp - 1#16)) = .raise k w →
      exec (.push qq) s = .next { w with fatal := some k } ∧
      w.regs = { s.regs with sp := s.regs.sp - 1#16 }) ∧
    (busWrite (s.regs.sp - 1#16) hi (s.setSp (s.regs.sp - 1#16)) = .done () u →
      busWrite (s.regs.sp - 2#16) lo (u.setSp (s.regs.sp - 2#16)) = .raise k w →
      exec (.push qq) s = .next { w with fatal := some k } ∧
      w.regs = { s.regs with sp := s.regs.sp - 2#16 })) ∧
  (∀ (nn : Word) (s u w : State) (k : Fatal),
    (busWrite (nn + 1#16) (hiByte s.regs.sp) s = .raise k w →
      exec (.ldAtNnSp nn) s = .next { w with fatal := some k } ∧ w.regs = s.regs) ∧
    (busWrite (nn + 1#16) (hiByte s.regs.sp) s = .done () u →
      busWrite nn (loByte s.regs.sp) u = .raise k w →
      exec (.ldAtNnSp nn) s = .next { w with fatal := some k } ∧ w.regs = s.regs))

/-! ### Frames -/

/-- 20_memory R61, R68, R77, R115, R128, R136: one bus write leaves the registers, the latches and the
configuration, and every address it does not touch reads as before. -/
def Obligations.BusWriteFrame : Prop :=
  ∀ (a : Word) (v : Byte) (s u : State), busWrite a v s = .done () u →
    (∀ x, s.touches a x = false → u.peek x = s.peek x) ∧
    u.regs = s.regs ∧ u.ime = s.ime ∧ u.imeSched = s.imeSched ∧ u.halted = s.halted ∧
    u.stopped = s.stopped ∧ u.fatal = s.fatal ∧ u.cart.rom = s.cart.rom ∧
    (s.intEnable ≠ u.intEnable → a = 0xFFFF#16) ∧ (s.intRequest ≠ u.intRequest → a = 0xFF0F#16)

/-- 10_state R46, R47 and the Operation lines: an instruction that stores nothing changes registers, the
control latches, the count of the oracle's answers and nothing else. -/
def Obligations.NoStoreFrame : Prop :=
  ∀ (i : Instr) (s t : State), i.storeAddr s = none → i.storeAddr16 s = none →
    exec i s = .next t →
    t = { s with regs := t.regs, ime := t.ime, imeSched := t.imeSched, halted := t.halted,
                 stopped := t.stopped, fatal := t.fatal, extReads := t.extReads,
                 lastCycles := t.lastCycles, haltBugArmed := t.haltBugArmed } ∧
    ∀ x, t.peek x = s.peek x

/-- The frame of the instructions that store one byte: every address the store to their address does not
touch reads as before; registers but `F`, `HL` (of the auto-pointer forms) and `pc` stay. -/
def Obligations.ByteStoreFrame : Prop :=
  ∀ (i : Instr) (s t : State) (a : Word), i.storeAddr s = some a → exec i s = .next t →
    s.fatal = none → t.fatal = none →
    (∀ x, s.touches a x = false → t.peek x = s.peek x) ∧
    t.regs = { s.regs with f := t.regs.f, h := t.regs.h, l := t.regs.l, pc := t.regs.pc } ∧
    (i ≠ .ldAtHlIncA → i ≠ .ldAtHlDecA → t.regs.h = s.regs.h ∧ t.regs.l = s.regs.l) ∧
    (i.writesFlags = false → t.regs.f = s.regs.f) ∧
    t.ime = s.ime ∧ t.imeSched = s.imeSched ∧ t.halted = s.halted ∧ t.stopped = s.stopped

/-- The frame of the instructions that store a word: the same with the two addresses; `SP` and `pc` are
the only registers that change. -/
def Obligations.WordStoreFrame : Prop :=
  ∀ (i : Instr) (s t : State) (a : Word), i.storeAddr16 s = some a → exec i s = .next t →
    s.fatal = none → t.fatal = none →
    (∀ x, s.touches a x = false → s.touches (a + 1#16) x = false → t.peek x = s.peek x) ∧
    t.regs = { s.regs with sp := t.regs.sp, pc := t.regs.pc } ∧
    (∀ nn, i = .ldAtNnSp nn → t.regs.sp = s.regs.sp) ∧
    t.ime = s.ime ∧ t.imeSched = s.imeSched ∧ t.halted = s.halted ∧ t.stopped = s.stopped

/-! ### Whole-machine rules -/

/-- 10_state R46: every instruction outside the table leaves the four flags. -/
def Obligations.OnlyTheTableWritesFlags : Prop :=
  ∀ (i : Instr) (s t : State), i.writesFlags = false → exec i s = .next t →
    t.regs.f = s.regs.f

/-- 46_cpu_control R330: the only instructions that write the control latches. -/
def Obligations.OnlyControlInstructionsWriteLatches : Prop :=
  ∀ (i : Instr) (s t : State), exec i s = .next t →
    (t.halted ≠ s.halted → i = .halt) ∧ (t.stopped ≠ s.stopped → ∃ n, i = .stop n) ∧
    (t.ime ≠ s.ime → i = .di ∨ i = .reti) ∧ (t.imeSched ≠ s.imeSched → i = .di ∨ i = .ei)

/-- 10_state R28: `pc` advances by the instruction's length unless it redirects control flow, from every
state without a fatal condition and with the latch of the optional `HALT` bug not armed (the latch is the
model's: log 9). -/
def Obligations.PcAdvancesByTheLength : Prop :=
  ∀ (i : Instr) (s t : State), s.haltBugArmed = false → i.redirects = false →
    exec i s = .next t → s.fatal = none → t.fatal = none →
    t.regs.pc.toNat = (s.regs.pc.toNat + (encode i).length) % 65536

/-- 70_reset_and_hazards R412, 45_control_flow R310: what a step reports is the table's cost; the
not-taken cost exactly when the condition is false. -/
def Obligations.CyclesAreTheTables : Prop :=
  ∀ (i : Instr) (s t : State), exec i s = .next t → s.fatal = none → t.fatal = none →
    (i.cyclesNotTaken = none → i.cycles = some t.lastCycles) ∧
    (i.cyclesNotTaken ≠ none →
      ∃ cc : Cond, ((encode i).headD 0#8).toNat / 8 % 4 = cc.code ∧
        (s.cond cc = true → i.cycles = some t.lastCycles) ∧
        (s.cond cc = false → i.cyclesNotTaken = some t.lastCycles))

/-- 20_memory R136, 10_state R39, R40: no step changes the image, the variant, the sizes, the boot image,
the map, the devices or the parameters, and the overlay never comes back. -/
def Obligations.ConfigurationNeverChanges : Prop :=
  ∀ (s t : State), step s = .next t →
    t.cart.rom = s.cart.rom ∧ t.cart.mbc.variant = s.cart.mbc.variant ∧
    t.cart.romBanks = s.cart.romBanks ∧ t.cart.ramLen = s.cart.ramLen ∧
    t.bootRom = s.bootRom ∧ t.map = s.map ∧ t.slots = s.slots ∧ t.params = s.params ∧
    (s.bootOverlay = false → t.bootOverlay = false)

/-- 60_exceptions R366, R367: in a machine with the default map and every device installed, every
well-formed instruction completes without a fatal condition. Not well formed are the eleven invalid
variants alone (the model's choice: log 16). -/
def Obligations.EveryInstructionCompletesWhenWired : Prop :=
  (∀ (i : Instr) (s : State), s.wired = true → i.wellFormed = true →
    ∃ t, exec i s = .next t ∧ t.fatal = s.fatal) ∧
  (∀ (i : Instr), i.wellFormed = false ↔ ∃ x : BadByte, i = .invalid x)

/-- 60_exceptions R361, R363, R366: such a machine stays wired, and the one fatal condition a step of it
can raise is an invalid primary byte. -/
def Obligations.WiredMachineFailsOnInvalidBytesOnly : Prop :=
  ∀ (s : State), s.wired = true → s.fatal = none →
    ∃ t, step s = .next t ∧ t.wired = true ∧
      (t.fatal = none ∨ ∃ x : BadByte, t.fatal = some (.invalidOpcode s.regs.pc x.code))

/-- The invariant holds at reset. -/
def Obligations.InvariantHoldsAtReset : Prop := State.reset.inv = true ∧ State.reset.wired = true

/-- The invariant is kept by every step from every state: canonical arrays inside their sizes, the low
nibble of `F` zero (10_state R24), never both halted and stopped. -/
def Obligations.StepKeepsTheInvariant : Prop :=
  ∀ (s t : State), s.inv = true → step s = .next t → t.inv = true

/-! ### Decoding -/

/-- 30_encoding R142, R161: decoding the encoding of an instruction gives it back, whatever bytes
follow. -/
def Obligations.DecodeOfEncode : Prop :=
  ∀ (i : Instr) (rest : List Byte), decodeBytes (encode i ++ rest) = .ok (i, rest)

/-- The other direction: every window is the encoding of what it decodes to, and its unused bytes. -/
def Obligations.EncodeOfDecode : Prop :=
  ∀ (b0 b1 b2 : Byte), encode (decode b0 b1 b2) = [b0, b1, b2].take (lengthOf b0)

/-- Words written out from the encodings of the spec, one or more per family. -/
def Obligations.WrittenWordsDecode : Prop :=
  decode 0b01000001#8 0#8 0#8 = .ldBC ∧ decode 0x3E#8 0x42#8 0#8 = .ldAN 0x42#8 ∧
  decode 0x31#8 0xFE#8 0xFF#8 = .ldSpNn 0xFFFE#16 ∧ decode 0xD1#8 0#8 0#8 = .popDe ∧
  decode 0b10000010#8 0#8 0#8 = .addAD ∧ decode 0xFE#8 0x90#8 0#8 = .cpN 0x90#8 ∧
  decode 0x39#8 0#8 0#8 = .addHlSp ∧ decode 0xE8#8 0x02#8 0#8 = .addSpE 0x02#8 ∧
  decode 0xCB#8 0b00111110#8 0#8 = .srlAtHl ∧ decode 0xCB#8 0b01111100#8 0#8 = .bit7H ∧
  decode 0x20#8 0xFB#8 0#8 = .jrNzE 0xFB#8 ∧ decode 0xCD#8 0x00#8 0x20#8 = .callNn 0x2000#16 ∧
  decode 0xEF#8 0#8 0#8 = .rst28 ∧ decode 0x76#8 0#8 0#8 = .halt ∧
  decode 0xDD#8 0#8 0#8 = .invalidDD

/-! ### The step -/

/-- 60_exceptions R350, R354, R360, 30_encoding R141: where an instruction is fetched, a step is `exec` of
the decoded instruction at the awake state after the fetch, the promotion of a scheduled `EI`, then the
boundary (R370, R371; log 7). A fatal read of the window is recorded, nothing is executed, and every
register, `pc` among them, stays (the optional `HALT` bug off: log 9). -/
def Obligations.StepRunsTheDecodedInstruction : Prop :=
  (∀ (s u t : State) (b0 b1 b2 : Byte), s.fetches → s.FetchedAs b0 b1 b2 u →
    exec (decode b0 b1 b2) u = .next t → step s = .next (t.promoted s.imeSched).atBoundary) ∧
  (∀ (s u v w : State) (b0 b1 : Byte) (k : Fatal), s.fetches → s.haltBugArmed = false →
    (busRead s.regs.pc { s with halted := false } = .raise k w ∨
      (busRead s.regs.pc { s with halted := false } = .done b0 u ∧
        busRead (s.regs.pc + 1#16) u = .raise k w) ∨
      (busRead s.regs.pc { s with halted := false } = .done b0 u ∧
        busRead (s.regs.pc + 1#16) u = .done b1 v ∧ busRead (s.regs.pc + 2#16) v = .raise k w)) →
    step s = .next { s with halted := false, fatal := some k, extReads := w.extReads })

/-- 60_exceptions R350, R385: a stopped core, and a halted one with nothing pending, report one cycle and
change nothing before the boundary. That a fatal machine's missing step (R350, R360) is a fault of `step`
is the model's reading (log 1), the boundary at the end of a step and the field that holds the cycles its
choice (log 7, log 8). -/
def Obligations.StepWithoutAnInstruction : Prop :=
  ∀ (s : State),
    (∀ k, s.fatal = some k → step s = .fault (.alreadyFatal k)) ∧
    (s.fatal = none → s.stopped = true → step s = .next { s with lastCycles := 1 }.atBoundary) ∧
    (s.fatal = none → s.stopped = false → s.pending = none → s.halted = true →
      step s = .next { s with lastCycles := 1 }.atBoundary)

/-- 60_exceptions R353, R344: taking an interrupt; a fatal push keeps what was done before it. The boundary
at the end of the step is the model's choice (log 7), and so is the latch of the optional `HALT` bug, which
a dispatch clears (log 9, from outside the spec). -/
def Obligations.InterruptDispatch : Prop :=
  ∀ (s e w : State) (p : Source) (k : Fatal), s.fatal = none → s.stopped = false → s.ime = true →
    s.pending = some p →
    e = { s with intRequest := s.intRequest &&& ~~~ (1#8 <<< p.bit), ime := false,
                 imeSched := false, halted := false, haltBugArmed := false } →
    (Pushes s.regs.pc e w → step s = .next (w.ends { s.regs with sp := s.regs.sp - 2#16 }
      (BitVec.ofNat 16 (0x40 + 8 * p.bit)) 5).atBoundary) ∧
    (push16 s.regs.pc e = .raise k w → step s = .next { w with fatal := some k } ∧
      w.regs = { s.regs with sp := w.regs.sp } ∧ w.ime = false ∧ w.imeSched = false ∧
      w.halted = false) ∧
    (busWrite (s.regs.sp - 1#16) (hiByte s.regs.pc) (e.setSp (s.regs.sp - 1#16)) = .raise k w →
      step s = .next { w with fatal := some k } ∧ w.intRequest = e.intRequest ∧
      w.regs = { s.regs with sp := s.regs.sp - 1#16 })

/-- 46_cpu_control R335, 10_state R31: `IME` becomes 1 at the end of the instruction after `EI`, unless
that instruction is `DI`. -/
def Obligations.EnableTakesEffectOneInstructionLater : Prop :=
  ∀ (s u t w : State) (b0 b1 b2 : Byte), s.fetches → s.FetchedAs b0 b1 b2 u →
    exec (decode b0 b1 b2) u = .next t → t.fatal = none → step s = .next w →
    (decode b0 b1 b2 = .ei → s.imeSched = false → w.ime = s.ime ∧ w.imeSched = true) ∧
    (s.imeSched = true → decode b0 b1 b2 ≠ .di → w.ime = true ∧ w.imeSched = false) ∧
    (decode b0 b1 b2 = .di → w.ime = false ∧ w.imeSched = false)

/-- 60_exceptions R342, R343, R345, R346: what is pending, `request`, `handle`, the two masks as
bytes, and an address that is neither. -/
def Obligations.InterruptControllerOperations : Prop :=
  (∀ (s : State) (p : Source), s.pending = some p ↔
    (s.intEnable.getLsbD p.bit = true ∧ s.intRequest.getLsbD p.bit = true ∧
      ∀ q : Source, q.bit < p.bit →
        ¬(s.intEnable.getLsbD q.bit = true ∧ s.intRequest.getLsbD q.bit = true))) ∧
  (∀ (s : State) (i : Source) (k : Nat), (s.request i).intRequest.getLsbD k =
    (s.intRequest.getLsbD k || k == i.bit)) ∧
  (∀ (s : State) (i : Source), s.request i = { s with intRequest := (s.request i).intRequest }) ∧
  (∀ (s : State) (i : Source), (s.request i).request i = s.request i) ∧
  (∀ (s : State) (clear : Bool), s.pending = none → s.handle clear = (none, s)) ∧
  (∀ (s : State) (p : Source), s.pending = some p →
    s.handle false = (some (BitVec.ofNat 16 (0x40 + 8 * p.bit)), s) ∧
    ∃ t, s.handle true = (some (BitVec.ofNat 16 (0x40 + 8 * p.bit)), t) ∧
      t = { s with intRequest := t.intRequest } ∧
      ∀ k, t.intRequest.getLsbD k = (s.intRequest.getLsbD k && k != p.bit)) ∧
  (∀ (s : State) (v : Byte), s.route 0xFFFF#16 = .ok .interruptController →
    busRead 0xFFFF#16 s = .done s.intEnable s ∧
    busWrite 0xFFFF#16 v s = .done () { s with intEnable := v }) ∧
  (∀ (s : State) (v : Byte), s.route 0xFF0F#16 = .ok .interruptController →
    busRead 0xFF0F#16 s = .done s.intRequest s ∧
    busWrite 0xFF0F#16 v s = .done () { s with intRequest := v }) ∧
  (∀ (s : State) (a : Word) (v : Byte), s.route a = .ok .interruptController → a ≠ 0xFFFF#16 →
    a ≠ 0xFF0F#16 → busRead a s = .raise (.unmappedAddress a) s ∧
    (intercept s.params.revision a = none → busWrite a v s = .raise (.unmappedAddress a) s))

/-- 60_exceptions R343, R370, R371, R372, 70_reset_and_hazards R403: the tick requests what the peripherals
raise; `STOP_WAKE` ends the stopped state and acts at the boundary of a single step alone; a frame ends with
the first round that raises frame-complete, its request set, or with the fatal record; a stopped core's
frames complete, and the core stays stopped. That what arrives is a schedule in the state, and that a frame
has a bound on its rounds, are the model's choices (log 7, log 18). -/
def Obligations.TickAndFrames : Prop :=
  (∀ (s : State), s.fatal ≠ none → s.tick = s ∧ s.atBoundary = s) ∧
  (∀ (s : State), s.fatal = none →
    s.tick = { s with intRequest := s.tick.intRequest, inputs := s.inputs.drop 1 } ∧
    (∀ k, s.tick.intRequest.getLsbD k =
      (s.intRequest.getLsbD k || (s.inputs.headD {}).raised.any fun i => i.bit == k)) ∧
    s.atBoundary = { s.tick with stopped := s.stopped && !(s.inputs.headD {}).wake }) ∧
  (∀ (s : State), s.stopWake = { s with stopped := false } ∧ (s.stopped = false → s.stopWake = s)) ∧
  (∀ (n : Nat) (b : Byte) (s t : State), runFrame n b s = .frameDone t →
    t.fatal = none ∧ t.intRequest.getLsbD 0 = true ∧
    (∃ m < n, .vblank ∈ ((s.inputs.drop m).headD {}).raised ∧
      (∀ j < m, .vblank ∉ ((s.inputs.drop j).headD {}).raised) ∧
      t.inputs = s.inputs.drop (m + 1)) ∧
    ((∀ x ∈ s.inputs, x.wake = false) → Reaches (s.logExt (.markButtons b)) t)) ∧
  (∀ (n : Nat) (b : Byte) (k : Fatal) (s t : State), runFrame n b s = .fatal k t →
    t.fatal = some k) ∧
  (∀ (n m : Nat) (b : Byte) (s : State), s.fatal = none → s.stopped = true → m < n →
    .vblank ∈ ((s.inputs.drop m).headD {}).raised →
    (∀ j < m, .vblank ∉ ((s.inputs.drop j).headD {}).raised) →
    ∃ t, runFrame n b s = .frameDone t ∧ t = { s with
      extLog := .markButtons b :: s.extLog, intRequest := t.intRequest,
      inputs := s.inputs.drop (m + 1), lastCycles := 1 })

/-! ### Devices behind the bus -/

/-- 20_memory R77: a byte stored in the RAM banks reads back, at its address and at its echo. -/
def Obligations.RamBanksReadBack : Prop :=
  ∀ (s : State) (a x : Word) (v : Byte), s.inv = true → s.inRam a → s.inRam x →
    sameRamCell a x = true →
    ∃ u, busWrite a v s = .done () u ∧ busRead x u = .done v u

/-- 20_memory R61, R78, R100, R101, R104 to R106: the three intercepted writes, none of them forwarded. A
copy reads its bytes through the bus in ascending order, as `get_slice` does, and hands each over; a fatal
read ends it part-way. While the overlay is on, the boot image answers under it. That what is handed over
is a record in `extLog`, and the byte beyond the boot image's end, are the model's (log 6, log 12). -/
def Obligations.InterceptedWrites : Prop :=
  (∀ (s u w : State) (b : Byte) (vs : List Byte) (i : Nat) (k : Fatal),
    (busSlice (BitVec.ofNat 16 (b.toNat * 256)) 160 s = .done vs u →
      busWrite 0xFF46#16 b s =
        .done () { u with extLog := handed .spriteTable vs ++ s.extLog }) ∧
    (i < 160 → busSlice (BitVec.ofNat 16 (b.toNat * 256)) i s = .done vs u →
      busRead (BitVec.ofNat 16 (b.toNat * 256 + i)) u = .raise k w →
      busWrite 0xFF46#16 b s =
        .raise k { w with extLog := handed .spriteTable vs ++ s.extLog })) ∧
  (∀ (s : State) (b : Byte) (f : Nat → Byte),
    (∀ i < 160, s.peek (BitVec.ofNat 16 (b.toNat * 256 + i)) = some (f i)) →
    busWrite 0xFF46#16 b s = .done () { s with
      extLog := ((List.range 160).map fun i => ExtEvent.spriteTable i (f i)).reverse ++ s.extLog }) ∧
  (∀ (s u w : State) (b : Byte) (vs : List Byte) (i len : Nat) (src : Word) (k : Fatal),
    s.params.revision = .cgb → len = (b.toNat % 128 + 1) * 16 →
    src = Config.extBlockSource s.extReads →
    (128 ≤ b.toNat → busWrite 0xFF55#16 b s =
      .done () { s with extLog := .scheduleBlockTransfer len :: s.extLog }) ∧
    (b.toNat < 128 → busSlice src len { s with extReads := s.extReads + 1 } = .done vs u →
      busWrite 0xFF55#16 b s = .done () { u with
        extLog := .blockAdvance len :: (handed .blockWrite vs ++ s.extLog) }) ∧
    (b.toNat < 128 → i < len →
      busSlice src i { s with extReads := s.extReads + 1 } = .done vs u →
      busRead (src + BitVec.ofNat 16 i) u = .raise k w →
      busWrite 0xFF55#16 b s = .raise k { w with extLog := handed .blockWrite vs ++ s.extLog })) ∧
  (∀ (s : State) (b : Byte) (d : DeviceId), s.params.revision = .dmg →
    s.route 0xFF55#16 = .ok d → busWrite 0xFF55#16 b s = deviceSet8 d 0xFF55#16 b s) ∧
  (∀ (s : State) (b : Byte), busWrite 0xFF50#16 b s =
    .done () (if b.toNat % 2 = 1 then { s with bootOverlay := false } else s)) ∧
  (∀ (s : State) (a : Word) (b : Byte) (img : Image), s.bootOverlay = true →
    .bootRom ∈ s.slots → s.bootRom = some img →
    (a.toNat ≤ 0x00FF ∨ (s.params.revision = .cgb ∧ 0x0200 ≤ a.toNat ∧ a.toNat ≤ 0x08FF)) →
    busWrite a b s = .done () s ∧ busRead a s =
      .done (if a.toNat < img.len then img.cells.read a.toNat else Config.bootBeyond a) s) ∧
  (∀ (s : State) (a : Word), (s.bootOverlay = false ∨
      (s.params.revision = .dmg ∧ 0x0100 ≤ a.toNat) ∨ 0x0900 ≤ a.toNat ∨
      (0x0100 ≤ a.toNat ∧ a.toNat < 0x0200)) → s.getId a = mapLookup s.map a)

/-- 20_memory R115, R116, R118, R120, R124, R126, R136: what a control write stores, window by window; on
the bus it changes the registers of the controller alone. -/
def Obligations.BankControlWrites : Prop :=
  ∀ (a : Word) (v : Byte) (en : Bool), a.toNat ≤ 0x7FFF →
    (∀ s : State, s.route a = .ok .cartridge → busWrite a v s =
      .done () { s with cart := { s.cart with mbc := s.cart.mbc.control a v } }) ∧
    (Mbc.fixed.control a v = .fixed) ∧
    (∀ lo hi mode, (Mbc.familyA en lo hi mode).control a v =
      match a.toNat / 0x2000 with
      | 0 => .familyA (decide (v.toNat % 16 = 10)) lo hi mode
      | 1 => .familyA en (BitVec.ofNat 5 v.toNat) hi mode
      | 2 => .familyA en lo (BitVec.ofNat 2 v.toNat) mode
      | _ => .familyA en lo hi (BitVec.ofNat 1 v.toNat)) ∧
    (∀ bank sel, (Mbc.familyB en bank sel).control a v =
      match a.toNat / 0x2000 with
      | 0 => .familyB (decide (v.toNat % 16 = 10)) bank sel
      | 1 => .familyB en (BitVec.ofNat 7 v.toNat) sel
      | 2 => .familyB en bank v
      | _ => .familyB en bank sel) ∧
    (∀ lo hi ram, (Mbc.familyC en lo hi ram).control a v =
      match a.toNat / 0x1000 with
      | 0 | 1 => .familyC (decide (v.toNat % 16 = 10)) lo hi ram
      | 2 => .familyC en v hi ram
      | 3 => .familyC en lo (BitVec.ofNat 1 v.toNat) ram
      | 4 | 5 => .familyC en lo hi (BitVec.ofNat 4 v.toNat)
      | _ => .familyC en lo hi ram) ∧
    (∀ bank, (Mbc.mbc2 en bank).control a v =
      if a.toNat ≤ 0x3FFF then
        (if a.toNat / 256 % 2 = 1 then .mbc2 en (BitVec.ofNat 4 v.toNat)
          else .mbc2 (decide (v.toNat % 16 = 10)) bank)
      else .mbc2 en bank)

/-- 20_memory R115, R116, R117, R121, R125, R126, R127: the effective banks of every controller, what a read
of the two ROM areas returns, that the bank read is one the image has, and that at reset it is bank 1. -/
def Obligations.EffectiveBanks : Prop :=
  (∀ (s : State) (a : Word), s.route a = .ok .cartridge →
    (a.toNat ≤ 0x3FFF → busRead a s = .done (s.cart.rom.read a.toNat) s) ∧
    (0x4000 ≤ a.toNat → a.toNat ≤ 0x7FFF → busRead a s = .done (s.cart.rom.read
      (s.cart.mbc.romBank s.cart.romBanks * 0x4000 + (a.toNat - 0x4000))) s)) ∧
  (∀ (m : Mbc) (n : Nat), 2 ≤ n → m.romBank n < n) ∧
  (∀ (n : Nat), Mbc.fixed.romBank n = 1 ∧ Mbc.fixed.ramBank = 0) ∧
  (∀ (en : Bool) (lo : BitVec 5) (hi : BitVec 2) (mode : BitVec 1) (sel n : Nat),
    sel = (if mode = 0#1 then hi.toNat * 32 + lo.toNat else lo.toNat) →
    (Mbc.familyA en lo hi mode).romBank n = (if sel % 32 = 0 then sel + 1 else sel) % n ∧
    (Mbc.familyA en lo hi mode).ramBank = (if mode = 1#1 then hi.toNat else 0)) ∧
  (∀ (en : Bool) (bank : BitVec 7) (sel : BitVec 8) (n : Nat),
    (Mbc.familyB en bank sel).romBank n = max bank.toNat 1 % n ∧
    (Mbc.familyB en bank sel).ramBank = sel.toNat % 4) ∧
  (∀ (en : Bool) (lo : BitVec 8) (hi : BitVec 1) (ram : BitVec 4) (n : Nat),
    (Mbc.familyC en lo hi ram).romBank n = (hi.toNat * 256 + lo.toNat) % n ∧
    (Mbc.familyC en lo hi ram).ramBank = ram.toNat) ∧
  (∀ (en : Bool) (bank : BitVec 4) (n : Nat),
    (Mbc.mbc2 en bank).romBank n = max bank.toNat 1 % n) ∧
  (∀ (v : Variant) (n : Nat), 2 ≤ n → v.reset.romBank n = 1)

/-- 20_memory R116, R118, R123, R126, R128, R129: what a read and a write of the RAM window do, for every
controller; and with family A, B with a RAM bank selected, or C, and RAM installed, enabling the RAM,
writing a byte, switching the ROM bank and back leaves the byte there, gated or not. For an MBC2 the gating
goes first (log 14). -/
def Obligations.CartridgeRamWindow : Prop :=
  (∀ (s : State) (a : Word) (v : Byte) (clock gated : Prop), s.inv = true →
    s.route a = .ok .cartridge → 0xA000 ≤ a.toNat → a.toNat ≤ 0xBFFF →
    (clock ↔ ∃ en bank sel, s.cart.mbc = .familyB en bank sel ∧ 3 < sel.toNat) →
    (gated ↔ s.params.ramGating = true ∧ s.cart.mbc.latch = some false) →
    (clock → busRead a s = .done 0x00#8 s ∧ busWrite a v s = .done () s) ∧
    (¬clock → s.cart.ramLen = 0 →
      busRead a s = .done s.params.nullRead s ∧ busWrite a v s = .done () s) ∧
    (¬clock → s.cart.ramLen ≠ 0 → gated →
      busRead a s = .done 0xFF#8 s ∧ busWrite a v s = .done () s) ∧
    (¬clock → s.cart.ramLen ≠ 0 → ¬gated → s.cart.mbc.variant = .mbc2 →
      ∀ k, k = (a.toNat - 0xA000) % 512 →
        busRead a s = .done (0xF0#8 ||| (s.cart.ram.read k &&& 0x0F#8)) s ∧
        s.StoresRam a v k (v &&& 0x0F#8)) ∧
    (¬clock → s.cart.ramLen ≠ 0 → ¬gated → s.cart.mbc.variant ≠ .mbc2 →
      ∀ k, k = (s.cart.mbc.ramBank * 0x2000 + (a.toNat - 0xA000)) % s.cart.ramLen →
        busRead a s = .done (s.cart.ram.read k) s ∧ s.StoresRam a v k v)) ∧
  (∀ (p : Params) (c : Cart) (v x y : Byte) (bank window : Word), c.ram.wf = true →
    (c.mbc.variant = .familyA ∨ (∃ en rom sel, c.mbc = .familyB en rom sel ∧ sel.toNat ≤ 3) ∨
      c.mbc.variant = .familyC) → 0 < c.ramLen → 0x2000 ≤ bank.toNat → bank.toNat ≤ 0x3FFF →
    0xA000 ≤ window.toNat → window.toNat ≤ 0xBFFF →
    ∃ c1 c2 c3 c4, c.set8 p 0x0000#16 0x0A#8 = some c1 ∧ c1.set8 p window v = some c2 ∧
      c2.set8 p bank x = some c3 ∧ c3.set8 p bank y = some c4 ∧
      c4.get8 p window = some v ∧ c4.rom = c.rom)
end

