-- ==== Sys2Proof/Laws/State.lean ====
section
/-! SUPPORT. One lemma per field per update of the state, so that no proof unfolds a record update. -/

namespace Sys2Proof.Machine

section setReg
variable (s : State) (r : Reg8) (v : Byte)

@[simp] theorem State.setReg_ime : (s.setReg r v).ime = s.ime := rfl
@[simp] theorem State.setReg_imeSched : (s.setReg r v).imeSched = s.imeSched := rfl
@[simp] theorem State.setReg_halted : (s.setReg r v).halted = s.halted := rfl
@[simp] theorem State.setReg_stopped : (s.setReg r v).stopped = s.stopped := rfl
@[simp] theorem State.setReg_fatal : (s.setReg r v).fatal = s.fatal := rfl
@[simp] theorem State.setReg_intEnable : (s.setReg r v).intEnable = s.intEnable := rfl
@[simp] theorem State.setReg_intRequest : (s.setReg r v).intRequest = s.intRequest := rfl
@[simp] theorem State.setReg_cart : (s.setReg r v).cart = s.cart := rfl
@[simp] theorem State.setReg_wram : (s.setReg r v).wram = s.wram := rfl
@[simp] theorem State.setReg_hram : (s.setReg r v).hram = s.hram := rfl
@[simp] theorem State.setReg_bootRom : (s.setReg r v).bootRom = s.bootRom := rfl
@[simp] theorem State.setReg_bootOverlay : (s.setReg r v).bootOverlay = s.bootOverlay := rfl
@[simp] theorem State.setReg_map : (s.setReg r v).map = s.map := rfl
@[simp] theorem State.setReg_slots : (s.setReg r v).slots = s.slots := rfl
@[simp] theorem State.setReg_params : (s.setReg r v).params = s.params := rfl
@[simp] theorem State.setReg_extReads : (s.setReg r v).extReads = s.extReads := rfl
@[simp] theorem State.setReg_extLog : (s.setReg r v).extLog = s.extLog := rfl
@[simp] theorem State.setReg_inputs : (s.setReg r v).inputs = s.inputs := rfl
@[simp] theorem State.setReg_lastCycles : (s.setReg r v).lastCycles = s.lastCycles := rfl
@[simp] theorem State.setReg_haltBugArmed : (s.setReg r v).haltBugArmed = s.haltBugArmed := rfl

end setReg

section setF
variable (s : State) (v : Byte)

@[simp] theorem State.setF_ime : (s.setF v).ime = s.ime := rfl
@[simp] theorem State.setF_imeSched : (s.setF v).imeSched = s.imeSched := rfl
@[simp] theorem State.setF_halted : (s.setF v).halted = s.halted := rfl
@[simp] theorem State.setF_stopped : (s.setF v).stopped = s.stopped := rfl
@[simp] theorem State.setF_fatal : (s.setF v).fatal = s.fatal := rfl
@[simp] theorem State.setF_intEnable : (s.setF v).intEnable = s.intEnable := rfl
@[simp] theorem State.setF_intRequest : (s.setF v).intRequest = s.intRequest := rfl
@[simp] theorem State.setF_cart : (s.setF v).cart = s.cart := rfl
@[simp] theorem State.setF_wram : (s.setF v).wram = s.wram := rfl
@[simp] theorem State.setF_hram : (s.setF v).hram = s.hram := rfl
@[simp] theorem State.setF_bootRom : (s.setF v).bootRom = s.bootRom := rfl
@[simp] theorem State.setF_bootOverlay : (s.setF v).bootOverlay = s.bootOverlay := rfl
@[simp] theorem State.setF_map : (s.setF v).map = s.map := rfl
@[simp] theorem State.setF_slots : (s.setF v).slots = s.slots := rfl
@[simp] theorem State.setF_params : (s.setF v).params = s.params := rfl
@[simp] theorem State.setF_extReads : (s.setF v).extReads = s.extReads := rfl
@[simp] theorem State.setF_extLog : (s.setF v).extLog = s.extLog := rfl
@[simp] theorem State.setF_inputs : (s.setF v).inputs = s.inputs := rfl
@[simp] theorem State.setF_lastCycles : (s.setF v).lastCycles = s.lastCycles := rfl
@[simp] theorem State.setF_haltBugArmed : (s.setF v).haltBugArmed = s.haltBugArmed := rfl

end setF

section setFlags
variable (s : State) (z n h c : Bool)

@[simp] theorem State.setFlags_ime : (s.setFlags z n h c).ime = s.ime := rfl
@[simp] theorem State.setFlags_imeSched : (s.setFlags z n h c).imeSched = s.imeSched := rfl
@[simp] theorem State.setFlags_halted : (s.setFlags z n h c).halted = s.halted := rfl
@[simp] theorem State.setFlags_stopped : (s.setFlags z n h c).stopped = s.stopped := rfl
@[simp] theorem State.setFlags_fatal : (s.setFlags z n h c).fatal = s.fatal := rfl
@[simp] theorem State.setFlags_intEnable : (s.setFlags z n h c).intEnable = s.intEnable := rfl
@[simp] theorem State.setFlags_intRequest : (s.setFlags z n h c).intRequest = s.intRequest := rfl
@[simp] theorem State.setFlags_cart : (s.setFlags z n h c).cart = s.cart := rfl
@[simp] theorem State.setFlags_wram : (s.setFlags z n h c).wram = s.wram := rfl
@[simp] theorem State.setFlags_hram : (s.setFlags z n h c).hram = s.hram := rfl
@[simp] theorem State.setFlags_bootRom : (s.setFlags z n h c).bootRom = s.bootRom := rfl
@[simp] theorem State.setFlags_bootOverlay : (s.setFlags z n h c).bootOverlay = s.bootOverlay := rfl
@[simp] theorem State.setFlags_map : (s.setFlags z n h c).map = s.map := rfl
@[simp] theorem State.setFlags_slots : (s.setFlags z n h c).slots = s.slots := rfl
@[simp] theorem State.setFlags_params : (s.setFlags z n h c).params = s.params := rfl
@[simp] theorem State.setFlags_extReads : (s.setFlags z n h c).extReads = s.extReads := rfl
@[simp] theorem State.setFlags_extLog : (s.setFlags z n h c).extLog = s.extLog := rfl
@[simp] theorem State.setFlags_inputs : (s.setFlags z n h c).inputs = s.inputs := rfl
@[simp] theorem State.setFlags_lastCycles : (s.setFlags z n h c).lastCycles = s.lastCycles := rfl
@[simp] theorem State.setFlags_haltBugArmed : (s.setFlags z n h c).haltBugArmed = s.haltBugArmed := rfl

end setFlags

section setSp
variable (s : State) (v : Word)

@[simp] theorem State.setSp_ime : (s.setSp v).ime = s.ime := rfl
@[simp] theorem State.setSp_imeSched : (s.setSp v).imeSched = s.imeSched := rfl
@[simp] theorem State.setSp_halted : (s.setSp v).halted = s.halted := rfl
@[simp] theorem State.setSp_stopped : (s.setSp v).stopped = s.stopped := rfl
@[simp] theorem State.setSp_fatal : (s.setSp v).fatal = s.fatal := rfl
@[simp] theorem State.setSp_intEnable : (s.setSp v).intEnable = s.intEnable := rfl
@[simp] theorem State.setSp_intRequest : (s.setSp v).intRequest = s.intRequest := rfl
@[simp] theorem State.setSp_cart : (s.setSp v).cart = s.cart := rfl
@[simp] theorem State.setSp_wram : (s.setSp v).wram = s.wram := rfl
@[simp] theorem State.setSp_hram : (s.setSp v).hram = s.hram := rfl
@[simp] theorem State.setSp_bootRom : (s.setSp v).bootRom = s.bootRom := rfl
@[simp] theorem State.setSp_bootOverlay : (s.setSp v).bootOverlay = s.bootOverlay := rfl
@[simp] theorem State.setSp_map : (s.setSp v).map = s.map := rfl
@[simp] theorem State.setSp_slots : (s.setSp v).slots = s.slots := rfl
@[simp] theorem State.setSp_params : (s.setSp v).params = s.params := rfl
@[simp] theorem State.setSp_extReads : (s.setSp v).extReads = s.extReads := rfl
@[simp] theorem State.setSp_extLog : (s.setSp v).extLog = s.extLog := rfl
@[simp] theorem State.setSp_inputs : (s.setSp v).inputs = s.inputs := rfl
@[simp] theorem State.setSp_lastCycles : (s.setSp v).lastCycles = s.lastCycles := rfl
@[simp] theorem State.setSp_haltBugArmed : (s.setSp v).haltBugArmed = s.haltBugArmed := rfl

end setSp

section setPc
variable (s : State) (v : Word)

@[simp] theorem State.setPc_ime : (s.setPc v).ime = s.ime := rfl
@[simp] theorem State.setPc_imeSched : (s.setPc v).imeSched = s.imeSched := rfl
@[simp] theorem State.setPc_halted : (s.setPc v).halted = s.halted := rfl
@[simp] theorem State.setPc_stopped : (s.setPc v).stopped = s.stopped := rfl
@[simp] theorem State.setPc_fatal : (s.setPc v).fatal = s.fatal := rfl
@[simp] theorem State.setPc_intEnable : (s.setPc v).intEnable = s.intEnable := rfl
@[simp] theorem State.setPc_intRequest : (s.setPc v).intRequest = s.intRequest := rfl
@[simp] theorem State.setPc_cart : (s.setPc v).cart = s.cart := rfl
@[simp] theorem State.setPc_wram : (s.setPc v).wram = s.wram := rfl
@[simp] theorem State.setPc_hram : (s.setPc v).hram = s.hram := rfl
@[simp] theorem State.setPc_bootRom : (s.setPc v).bootRom = s.bootRom := rfl
@[simp] theorem State.setPc_bootOverlay : (s.setPc v).bootOverlay = s.bootOverlay := rfl
@[simp] theorem State.setPc_map : (s.setPc v).map = s.map := rfl
@[simp] theorem State.setPc_slots : (s.setPc v).slots = s.slots := rfl
@[simp] theorem State.setPc_params : (s.setPc v).params = s.params := rfl
@[simp] theorem State.setPc_extReads : (s.setPc v).extReads = s.extReads := rfl
@[simp] theorem State.setPc_extLog : (s.setPc v).extLog = s.extLog := rfl
@[simp] theorem State.setPc_inputs : (s.setPc v).inputs = s.inputs := rfl
@[simp] theorem State.setPc_lastCycles : (s.setPc v).lastCycles = s.lastCycles := rfl
@[simp] theorem State.setPc_haltBugArmed : (s.setPc v).haltBugArmed = s.haltBugArmed := rfl

end setPc

section setPair
variable (s : State) (rr : Reg16) (v : Word)

@[simp] theorem State.setPair_ime : (s.setPair rr v).ime = s.ime := by cases rr <;> rfl
@[simp] theorem State.setPair_imeSched : (s.setPair rr v).imeSched = s.imeSched := by cases rr <;> rfl
@[simp] theorem State.setPair_halted : (s.setPair rr v).halted = s.halted := by cases rr <;> rfl
@[simp] theorem State.setPair_stopped : (s.setPair rr v).stopped = s.stopped := by cases rr <;> rfl
@[simp] theorem State.setPair_fatal : (s.setPair rr v).fatal = s.fatal := by cases rr <;> rfl
@[simp] theorem State.setPair_intEnable : (s.setPair rr v).intEnable = s.intEnable := by cases rr <;> rfl
@[simp] theorem State.setPair_intRequest : (s.setPair rr v).intRequest = s.intRequest := by cases rr <;> rfl
@[simp] theorem State.setPair_cart : (s.setPair rr v).cart = s.cart := by cases rr <;> rfl
@[simp] theorem State.setPair_wram : (s.setPair rr v).wram = s.wram := by cases rr <;> rfl
@[simp] theorem State.setPair_hram : (s.setPair rr v).hram = s.hram := by cases rr <;> rfl
@[simp] theorem State.setPair_bootRom : (s.setPair rr v).bootRom = s.bootRom := by cases rr <;> rfl
@[simp] theorem State.setPair_bootOverlay : (s.setPair rr v).bootOverlay = s.bootOverlay := by cases rr <;> rfl
@[simp] theorem State.setPair_map : (s.setPair rr v).map = s.map := by cases rr <;> rfl
@[simp] theorem State.setPair_slots : (s.setPair rr v).slots = s.slots := by cases rr <;> rfl
@[simp] theorem State.setPair_params : (s.setPair rr v).params = s.params := by cases rr <;> rfl
@[simp] theorem State.setPair_extReads : (s.setPair rr v).extReads = s.extReads := by cases rr <;> rfl
@[simp] theorem State.setPair_extLog : (s.setPair rr v).extLog = s.extLog := by cases rr <;> rfl
@[simp] theorem State.setPair_inputs : (s.setPair rr v).inputs = s.inputs := by cases rr <;> rfl
@[simp] theorem State.setPair_lastCycles : (s.setPair rr v).lastCycles = s.lastCycles := by cases rr <;> rfl
@[simp] theorem State.setPair_haltBugArmed : (s.setPair rr v).haltBugArmed = s.haltBugArmed := by cases rr <;> rfl

end setPair

section setStackReg
variable (s : State) (qq : StackReg) (v : Word)

@[simp] theorem State.setStackReg_ime : (s.setStackReg qq v).ime = s.ime := by cases qq <;> rfl
@[simp] theorem State.setStackReg_imeSched : (s.setStackReg qq v).imeSched = s.imeSched := by cases qq <;> rfl
@[simp] theorem State.setStackReg_halted : (s.setStackReg qq v).halted = s.halted := by cases qq <;> rfl
@[simp] theorem State.setStackReg_stopped : (s.setStackReg qq v).stopped = s.stopped := by cases qq <;> rfl
@[simp] theorem State.setStackReg_fatal : (s.setStackReg qq v).fatal = s.fatal := by cases qq <;> rfl
@[simp] theorem State.setStackReg_intEnable : (s.setStackReg qq v).intEnable = s.intEnable := by cases qq <;> rfl
@[simp] theorem State.setStackReg_intRequest : (s.setStackReg qq v).intRequest = s.intRequest := by cases qq <;> rfl
@[simp] theorem State.setStackReg_cart : (s.setStackReg qq v).cart = s.cart := by cases qq <;> rfl
@[simp] theorem State.setStackReg_wram : (s.setStackReg qq v).wram = s.wram := by cases qq <;> rfl
@[simp] theorem State.setStackReg_hram : (s.setStackReg qq v).hram = s.hram := by cases qq <;> rfl
@[simp] theorem State.setStackReg_bootRom : (s.setStackReg qq v).bootRom = s.bootRom := by cases qq <;> rfl
@[simp] theorem State.setStackReg_bootOverlay : (s.setStackReg qq v).bootOverlay = s.bootOverlay := by cases qq <;> rfl
@[simp] theorem State.setStackReg_map : (s.setStackReg qq v).map = s.map := by cases qq <;> rfl
@[simp] theorem State.setStackReg_slots : (s.setStackReg qq v).slots = s.slots := by cases qq <;> rfl
@[simp] theorem State.setStackReg_params : (s.setStackReg qq v).params = s.params := by cases qq <;> rfl
@[simp] theorem State.setStackReg_extReads : (s.setStackReg qq v).extReads = s.extReads := by cases qq <;> rfl
@[simp] theorem State.setStackReg_extLog : (s.setStackReg qq v).extLog = s.extLog := by cases qq <;> rfl
@[simp] theorem State.setStackReg_inputs : (s.setStackReg qq v).inputs = s.inputs := by cases qq <;> rfl
@[simp] theorem State.setStackReg_lastCycles : (s.setStackReg qq v).lastCycles = s.lastCycles := by cases qq <;> rfl
@[simp] theorem State.setStackReg_haltBugArmed : (s.setStackReg qq v).haltBugArmed = s.haltBugArmed := by cases qq <;> rfl

end setStackReg

section setAlu
variable (s : State) (x : AluResult)

@[simp] theorem State.setAlu_ime : (s.setAlu x).ime = s.ime := rfl
@[simp] theorem State.setAlu_imeSched : (s.setAlu x).imeSched = s.imeSched := rfl
@[simp] theorem State.setAlu_halted : (s.setAlu x).halted = s.halted := rfl
@[simp] theorem State.setAlu_stopped : (s.setAlu x).stopped = s.stopped := rfl
@[simp] theorem State.setAlu_fatal : (s.setAlu x).fatal = s.fatal := rfl
@[simp] theorem State.setAlu_intEnable : (s.setAlu x).intEnable = s.intEnable := rfl
@[simp] theorem State.setAlu_intRequest : (s.setAlu x).intRequest = s.intRequest := rfl
@[simp] theorem State.setAlu_cart : (s.setAlu x).cart = s.cart := rfl
@[simp] theorem State.setAlu_wram : (s.setAlu x).wram = s.wram := rfl
@[simp] theorem State.setAlu_hram : (s.setAlu x).hram = s.hram := rfl
@[simp] theorem State.setAlu_bootRom : (s.setAlu x).bootRom = s.bootRom := rfl
@[simp] theorem State.setAlu_bootOverlay : (s.setAlu x).bootOverlay = s.bootOverlay := rfl
@[simp] theorem State.setAlu_map : (s.setAlu x).map = s.map := rfl
@[simp] theorem State.setAlu_slots : (s.setAlu x).slots = s.slots := rfl
@[simp] theorem State.setAlu_params : (s.setAlu x).params = s.params := rfl
@[simp] theorem State.setAlu_extReads : (s.setAlu x).extReads = s.extReads := rfl
@[simp] theorem State.setAlu_extLog : (s.setAlu x).extLog = s.extLog := rfl
@[simp] theorem State.setAlu_inputs : (s.setAlu x).inputs = s.inputs := rfl
@[simp] theorem State.setAlu_lastCycles : (s.setAlu x).lastCycles = s.lastCycles := rfl
@[simp] theorem State.setAlu_haltBugArmed : (s.setAlu x).haltBugArmed = s.haltBugArmed := rfl

end setAlu

section setAluFlags
variable (s : State) (x : AluResult)

@[simp] theorem State.setAluFlags_ime : (s.setAluFlags x).ime = s.ime := rfl
@[simp] theorem State.setAluFlags_imeSched : (s.setAluFlags x).imeSched = s.imeSched := rfl
@[simp] theorem State.setAluFlags_halted : (s.setAluFlags x).halted = s.halted := rfl
@[simp] theorem State.setAluFlags_stopped : (s.setAluFlags x).stopped = s.stopped := rfl
@[simp] theorem State.setAluFlags_fatal : (s.setAluFlags x).fatal = s.fatal := rfl
@[simp] theorem State.setAluFlags_intEnable : (s.setAluFlags x).intEnable = s.intEnable := rfl
@[simp] theorem State.setAluFlags_intRequest : (s.setAluFlags x).intRequest = s.intRequest := rfl
@[simp] theorem State.setAluFlags_cart : (s.setAluFlags x).cart = s.cart := rfl
@[simp] theorem State.setAluFlags_wram : (s.setAluFlags x).wram = s.wram := rfl
@[simp] theorem State.setAluFlags_hram : (s.setAluFlags x).hram = s.hram := rfl
@[simp] theorem State.setAluFlags_bootRom : (s.setAluFlags x).bootRom = s.bootRom := rfl
@[simp] theorem State.setAluFlags_bootOverlay : (s.setAluFlags x).bootOverlay = s.bootOverlay := rfl
@[simp] theorem State.setAluFlags_map : (s.setAluFlags x).map = s.map := rfl
@[simp] theorem State.setAluFlags_slots : (s.setAluFlags x).slots = s.slots := rfl
@[simp] theorem State.setAluFlags_params : (s.setAluFlags x).params = s.params := rfl
@[simp] theorem State.setAluFlags_extReads : (s.setAluFlags x).extReads = s.extReads := rfl
@[simp] theorem State.setAluFlags_extLog : (s.setAluFlags x).extLog = s.extLog := rfl
@[simp] theorem State.setAluFlags_inputs : (s.setAluFlags x).inputs = s.inputs := rfl
@[simp] theorem State.setAluFlags_lastCycles : (s.setAluFlags x).lastCycles = s.lastCycles := rfl
@[simp] theorem State.setAluFlags_haltBugArmed : (s.setAluFlags x).haltBugArmed = s.haltBugArmed := rfl

end setAluFlags

section jump
variable (s : State) (p : Word) (n : Nat)

@[simp] theorem State.jump_ime : (s.jump p n).ime = s.ime := rfl
@[simp] theorem State.jump_imeSched : (s.jump p n).imeSched = s.imeSched := rfl
@[simp] theorem State.jump_halted : (s.jump p n).halted = s.halted := rfl
@[simp] theorem State.jump_stopped : (s.jump p n).stopped = s.stopped := rfl
@[simp] theorem State.jump_fatal : (s.jump p n).fatal = s.fatal := rfl
@[simp] theorem State.jump_intEnable : (s.jump p n).intEnable = s.intEnable := rfl
@[simp] theorem State.jump_intRequest : (s.jump p n).intRequest = s.intRequest := rfl
@[simp] theorem State.jump_cart : (s.jump p n).cart = s.cart := rfl
@[simp] theorem State.jump_wram : (s.jump p n).wram = s.wram := rfl
@[simp] theorem State.jump_hram : (s.jump p n).hram = s.hram := rfl
@[simp] theorem State.jump_bootRom : (s.jump p n).bootRom = s.bootRom := rfl
@[simp] theorem State.jump_bootOverlay : (s.jump p n).bootOverlay = s.bootOverlay := rfl
@[simp] theorem State.jump_map : (s.jump p n).map = s.map := rfl
@[simp] theorem State.jump_slots : (s.jump p n).slots = s.slots := rfl
@[simp] theorem State.jump_params : (s.jump p n).params = s.params := rfl
@[simp] theorem State.jump_extReads : (s.jump p n).extReads = s.extReads := rfl
@[simp] theorem State.jump_extLog : (s.jump p n).extLog = s.extLog := rfl
@[simp] theorem State.jump_inputs : (s.jump p n).inputs = s.inputs := rfl

end jump

section finish
variable (s : State) (len n : Nat)

@[simp] theorem State.finish_ime : (s.finish len n).ime = s.ime := rfl
@[simp] theorem State.finish_imeSched : (s.finish len n).imeSched = s.imeSched := rfl
@[simp] theorem State.finish_halted : (s.finish len n).halted = s.halted := rfl
@[simp] theorem State.finish_stopped : (s.finish len n).stopped = s.stopped := rfl
@[simp] theorem State.finish_fatal : (s.finish len n).fatal = s.fatal := rfl
@[simp] theorem State.finish_intEnable : (s.finish len n).intEnable = s.intEnable := rfl
@[simp] theorem State.finish_intRequest : (s.finish len n).intRequest = s.intRequest := rfl
@[simp] theorem State.finish_cart : (s.finish len n).cart = s.cart := rfl
@[simp] theorem State.finish_wram : (s.finish len n).wram = s.wram := rfl
@[simp] theorem State.finish_hram : (s.finish len n).hram = s.hram := rfl
@[simp] theorem State.finish_bootRom : (s.finish len n).bootRom = s.bootRom := rfl
@[simp] theorem State.finish_bootOverlay : (s.finish len n).bootOverlay = s.bootOverlay := rfl
@[simp] theorem State.finish_map : (s.finish len n).map = s.map := rfl
@[simp] theorem State.finish_slots : (s.finish len n).slots = s.slots := rfl
@[simp] theorem State.finish_params : (s.finish len n).params = s.params := rfl
@[simp] theorem State.finish_extReads : (s.finish len n).extReads = s.extReads := rfl
@[simp] theorem State.finish_extLog : (s.finish len n).extLog = s.extLog := rfl
@[simp] theorem State.finish_inputs : (s.finish len n).inputs = s.inputs := rfl

end finish

section ends
variable (s : State) (g : RegFile) (p : Word) (n : Nat)

@[simp] theorem State.ends_ime : (s.ends g p n).ime = s.ime := rfl
@[simp] theorem State.ends_imeSched : (s.ends g p n).imeSched = s.imeSched := rfl
@[simp] theorem State.ends_halted : (s.ends g p n).halted = s.halted := rfl
@[simp] theorem State.ends_stopped : (s.ends g p n).stopped = s.stopped := rfl
@[simp] theorem State.ends_fatal : (s.ends g p n).fatal = s.fatal := rfl
@[simp] theorem State.ends_intEnable : (s.ends g p n).intEnable = s.intEnable := rfl
@[simp] theorem State.ends_intRequest : (s.ends g p n).intRequest = s.intRequest := rfl
@[simp] theorem State.ends_cart : (s.ends g p n).cart = s.cart := rfl
@[simp] theorem State.ends_wram : (s.ends g p n).wram = s.wram := rfl
@[simp] theorem State.ends_hram : (s.ends g p n).hram = s.hram := rfl
@[simp] theorem State.ends_bootRom : (s.ends g p n).bootRom = s.bootRom := rfl
@[simp] theorem State.ends_bootOverlay : (s.ends g p n).bootOverlay = s.bootOverlay := rfl
@[simp] theorem State.ends_map : (s.ends g p n).map = s.map := rfl
@[simp] theorem State.ends_slots : (s.ends g p n).slots = s.slots := rfl
@[simp] theorem State.ends_params : (s.ends g p n).params = s.params := rfl
@[simp] theorem State.ends_extReads : (s.ends g p n).extReads = s.extReads := rfl
@[simp] theorem State.ends_extLog : (s.ends g p n).extLog = s.extLog := rfl
@[simp] theorem State.ends_inputs : (s.ends g p n).inputs = s.inputs := rfl

end ends

section raised
variable (s : State) (k : Fatal)

@[simp] theorem State.raised_ime : (s.raised k).ime = s.ime := rfl
@[simp] theorem State.raised_imeSched : (s.raised k).imeSched = s.imeSched := rfl
@[simp] theorem State.raised_halted : (s.raised k).halted = s.halted := rfl
@[simp] theorem State.raised_stopped : (s.raised k).stopped = s.stopped := rfl
@[simp] theorem State.raised_intEnable : (s.raised k).intEnable = s.intEnable := rfl
@[simp] theorem State.raised_intRequest : (s.raised k).intRequest = s.intRequest := rfl
@[simp] theorem State.raised_cart : (s.raised k).cart = s.cart := rfl
@[simp] theorem State.raised_wram : (s.raised k).wram = s.wram := rfl
@[simp] theorem State.raised_hram : (s.raised k).hram = s.hram := rfl
@[simp] theorem State.raised_bootRom : (s.raised k).bootRom = s.bootRom := rfl
@[simp] theorem State.raised_bootOverlay : (s.raised k).bootOverlay = s.bootOverlay := rfl
@[simp] theorem State.raised_map : (s.raised k).map = s.map := rfl
@[simp] theorem State.raised_slots : (s.raised k).slots = s.slots := rfl
@[simp] theorem State.raised_params : (s.raised k).params = s.params := rfl
@[simp] theorem State.raised_extReads : (s.raised k).extReads = s.extReads := rfl
@[simp] theorem State.raised_extLog : (s.raised k).extLog = s.extLog := rfl
@[simp] theorem State.raised_inputs : (s.raised k).inputs = s.inputs := rfl
@[simp] theorem State.raised_lastCycles : (s.raised k).lastCycles = s.lastCycles := rfl
@[simp] theorem State.raised_haltBugArmed : (s.raised k).haltBugArmed = s.haltBugArmed := rfl

end raised

section logExt
variable (s : State) (e : ExtEvent)

@[simp] theorem State.logExt_ime : (s.logExt e).ime = s.ime := rfl
@[simp] theorem State.logExt_imeSched : (s.logExt e).imeSched = s.imeSched := rfl
@[simp] theorem State.logExt_halted : (s.logExt e).halted = s.halted := rfl
@[simp] theorem State.logExt_stopped : (s.logExt e).stopped = s.stopped := rfl
@[simp] theorem State.logExt_fatal : (s.logExt e).fatal = s.fatal := rfl
@[simp] theorem State.logExt_intEnable : (s.logExt e).intEnable = s.intEnable := rfl
@[simp] theorem State.logExt_intRequest : (s.logExt e).intRequest = s.intRequest := rfl
@[simp] theorem State.logExt_cart : (s.logExt e).cart = s.cart := rfl
@[simp] theorem State.logExt_wram : (s.logExt e).wram = s.wram := rfl
@[simp] theorem State.logExt_hram : (s.logExt e).hram = s.hram := rfl
@[simp] theorem State.logExt_bootRom : (s.logExt e).bootRom = s.bootRom := rfl
@[simp] theorem State.logExt_bootOverlay : (s.logExt e).bootOverlay = s.bootOverlay := rfl
@[simp] theorem State.logExt_map : (s.logExt e).map = s.map := rfl
@[simp] theorem State.logExt_slots : (s.logExt e).slots = s.slots := rfl
@[simp] theorem State.logExt_params : (s.logExt e).params = s.params := rfl
@[simp] theorem State.logExt_extReads : (s.logExt e).extReads = s.extReads := rfl
@[simp] theorem State.logExt_inputs : (s.logExt e).inputs = s.inputs := rfl
@[simp] theorem State.logExt_lastCycles : (s.logExt e).lastCycles = s.lastCycles := rfl
@[simp] theorem State.logExt_haltBugArmed : (s.logExt e).haltBugArmed = s.haltBugArmed := rfl

end logExt

section clearRequest
variable (s : State) (i : Source)

@[simp] theorem State.clearRequest_ime : (s.clearRequest i).ime = s.ime := rfl
@[simp] theorem State.clearRequest_imeSched : (s.clearRequest i).imeSched = s.imeSched := rfl
@[simp] theorem State.clearRequest_halted : (s.clearRequest i).halted = s.halted := rfl
@[simp] theorem State.clearRequest_stopped : (s.clearRequest i).stopped = s.stopped := rfl
@[simp] theorem State.clearRequest_fatal : (s.clearRequest i).fatal = s.fatal := rfl
@[simp] theorem State.clearRequest_intEnable : (s.clearRequest i).intEnable = s.intEnable := rfl
@[simp] theorem State.clearRequest_cart : (s.clearRequest i).cart = s.cart := rfl
@[simp] theorem State.clearRequest_wram : (s.clearRequest i).wram = s.wram := rfl
@[simp] theorem State.clearRequest_hram : (s.clearRequest i).hram = s.hram := rfl
@[simp] theorem State.clearRequest_bootRom : (s.clearRequest i).bootRom = s.bootRom := rfl
@[simp] theorem State.clearRequest_bootOverlay : (s.clearRequest i).bootOverlay = s.bootOverlay := rfl
@[simp] theorem State.clearRequest_map : (s.clearRequest i).map = s.map := rfl
@[simp] theorem State.clearRequest_slots : (s.clearRequest i).slots = s.slots := rfl
@[simp] theorem State.clearRequest_params : (s.clearRequest i).params = s.params := rfl
@[simp] theorem State.clearRequest_extReads : (s.clearRequest i).extReads = s.extReads := rfl
@[simp] theorem State.clearRequest_extLog : (s.clearRequest i).extLog = s.extLog := rfl
@[simp] theorem State.clearRequest_inputs : (s.clearRequest i).inputs = s.inputs := rfl
@[simp] theorem State.clearRequest_lastCycles : (s.clearRequest i).lastCycles = s.lastCycles := rfl
@[simp] theorem State.clearRequest_haltBugArmed : (s.clearRequest i).haltBugArmed = s.haltBugArmed := rfl

end clearRequest

section request
variable (s : State) (i : Source)

@[simp] theorem State.request_ime : (s.request i).ime = s.ime := rfl
@[simp] theorem State.request_imeSched : (s.request i).imeSched = s.imeSched := rfl
@[simp] theorem State.request_halted : (s.request i).halted = s.halted := rfl
@[simp] theorem State.request_stopped : (s.request i).stopped = s.stopped := rfl
@[simp] theorem State.request_fatal : (s.request i).fatal = s.fatal := rfl
@[simp] theorem State.request_intEnable : (s.request i).intEnable = s.intEnable := rfl
@[simp] theorem State.request_cart : (s.request i).cart = s.cart := rfl
@[simp] theorem State.request_wram : (s.request i).wram = s.wram := rfl
@[simp] theorem State.request_hram : (s.request i).hram = s.hram := rfl
@[simp] theorem State.request_bootRom : (s.request i).bootRom = s.bootRom := rfl
@[simp] theorem State.request_bootOverlay : (s.request i).bootOverlay = s.bootOverlay := rfl
@[simp] theorem State.request_map : (s.request i).map = s.map := rfl
@[simp] theorem State.request_slots : (s.request i).slots = s.slots := rfl
@[simp] theorem State.request_params : (s.request i).params = s.params := rfl
@[simp] theorem State.request_extReads : (s.request i).extReads = s.extReads := rfl
@[simp] theorem State.request_extLog : (s.request i).extLog = s.extLog := rfl
@[simp] theorem State.request_inputs : (s.request i).inputs = s.inputs := rfl
@[simp] theorem State.request_lastCycles : (s.request i).lastCycles = s.lastCycles := rfl
@[simp] theorem State.request_haltBugArmed : (s.request i).haltBugArmed = s.haltBugArmed := rfl

end request

section enterHandler
variable (s : State) (i : Source)

@[simp] theorem State.enterHandler_stopped : (s.enterHandler i).stopped = s.stopped := rfl
@[simp] theorem State.enterHandler_fatal : (s.enterHandler i).fatal = s.fatal := rfl
@[simp] theorem State.enterHandler_intEnable : (s.enterHandler i).intEnable = s.intEnable := rfl
@[simp] theorem State.enterHandler_cart : (s.enterHandler i).cart = s.cart := rfl
@[simp] theorem State.enterHandler_wram : (s.enterHandler i).wram = s.wram := rfl
@[simp] theorem State.enterHandler_hram : (s.enterHandler i).hram = s.hram := rfl
@[simp] theorem State.enterHandler_bootRom : (s.enterHandler i).bootRom = s.bootRom := rfl
@[simp] theorem State.enterHandler_bootOverlay : (s.enterHandler i).bootOverlay = s.bootOverlay := rfl
@[simp] theorem State.enterHandler_map : (s.enterHandler i).map = s.map := rfl
@[simp] theorem State.enterHandler_slots : (s.enterHandler i).slots = s.slots := rfl
@[simp] theorem State.enterHandler_params : (s.enterHandler i).params = s.params := rfl
@[simp] theorem State.enterHandler_extReads : (s.enterHandler i).extReads = s.extReads := rfl
@[simp] theorem State.enterHandler_extLog : (s.enterHandler i).extLog = s.extLog := rfl
@[simp] theorem State.enterHandler_inputs : (s.enterHandler i).inputs = s.inputs := rfl
@[simp] theorem State.enterHandler_lastCycles : (s.enterHandler i).lastCycles = s.lastCycles := rfl

end enterHandler

section stopWake
variable (s : State)

@[simp] theorem State.stopWake_regs : s.stopWake.regs = s.regs := rfl
@[simp] theorem State.stopWake_ime : s.stopWake.ime = s.ime := rfl
@[simp] theorem State.stopWake_imeSched : s.stopWake.imeSched = s.imeSched := rfl
@[simp] theorem State.stopWake_halted : s.stopWake.halted = s.halted := rfl
@[simp] theorem State.stopWake_fatal : s.stopWake.fatal = s.fatal := rfl
@[simp] theorem State.stopWake_intEnable : s.stopWake.intEnable = s.intEnable := rfl
@[simp] theorem State.stopWake_intRequest : s.stopWake.intRequest = s.intRequest := rfl
@[simp] theorem State.stopWake_cart : s.stopWake.cart = s.cart := rfl
@[simp] theorem State.stopWake_wram : s.stopWake.wram = s.wram := rfl
@[simp] theorem State.stopWake_hram : s.stopWake.hram = s.hram := rfl
@[simp] theorem State.stopWake_bootRom : s.stopWake.bootRom = s.bootRom := rfl
@[simp] theorem State.stopWake_bootOverlay : s.stopWake.bootOverlay = s.bootOverlay := rfl
@[simp] theorem State.stopWake_map : s.stopWake.map = s.map := rfl
@[simp] theorem State.stopWake_slots : s.stopWake.slots = s.slots := rfl
@[simp] theorem State.stopWake_params : s.stopWake.params = s.params := rfl
@[simp] theorem State.stopWake_extReads : s.stopWake.extReads = s.extReads := rfl
@[simp] theorem State.stopWake_extLog : s.stopWake.extLog = s.extLog := rfl
@[simp] theorem State.stopWake_inputs : s.stopWake.inputs = s.inputs := rfl
@[simp] theorem State.stopWake_lastCycles : s.stopWake.lastCycles = s.lastCycles := rfl
@[simp] theorem State.stopWake_haltBugArmed : s.stopWake.haltBugArmed = s.haltBugArmed := rfl
@[simp] theorem State.stopWake_stopped : s.stopWake.stopped = false := rfl

end stopWake

/-! ### The register file after an update -/

section regs
variable (s : State)

@[simp] theorem State.setReg_regs (r : Reg8) (v : Byte) :
    (s.setReg r v).regs = s.regs.set r v := rfl
@[simp] theorem State.setF_regs (v : Byte) : (s.setF v).regs = { s.regs with f := maskF v } := rfl
@[simp] theorem State.setSp_regs (v : Word) : (s.setSp v).regs = { s.regs with sp := v } := rfl
@[simp] theorem State.setPc_regs (v : Word) : (s.setPc v).regs = { s.regs with pc := v } := rfl
@[simp] theorem State.jump_regs (p : Word) (n : Nat) :
    (s.jump p n).regs = { s.regs with pc := p } := rfl
@[simp] theorem State.finish_regs (len n : Nat) :
    (s.finish len n).regs = { s.regs with pc := s.next len } := rfl
@[simp] theorem State.ends_regs (g : RegFile) (p : Word) (n : Nat) :
    (s.ends g p n).regs = { g with pc := p } := rfl
@[simp] theorem State.raised_regs (k : Fatal) : (s.raised k).regs = s.regs := rfl
@[simp] theorem State.logExt_regs (e : ExtEvent) : (s.logExt e).regs = s.regs := rfl
@[simp] theorem State.request_regs (i : Source) : (s.request i).regs = s.regs := rfl
@[simp] theorem State.clearRequest_regs (i : Source) : (s.clearRequest i).regs = s.regs := rfl
@[simp] theorem State.enterHandler_regs (i : Source) : (s.enterHandler i).regs = s.regs := rfl
@[simp] theorem State.jump_lastCycles (p : Word) (n : Nat) : (s.jump p n).lastCycles = n := rfl
@[simp] theorem State.finish_lastCycles (len n : Nat) : (s.finish len n).lastCycles = n := rfl
@[simp] theorem State.ends_lastCycles (g : RegFile) (p : Word) (n : Nat) :
    (s.ends g p n).lastCycles = n := rfl
@[simp] theorem State.jump_haltBugArmed (p : Word) (n : Nat) :
    (s.jump p n).haltBugArmed = false := rfl
@[simp] theorem State.finish_haltBugArmed (len n : Nat) :
    (s.finish len n).haltBugArmed = false := rfl
@[simp] theorem State.raised_fatal (k : Fatal) : (s.raised k).fatal = some k := rfl
@[simp] theorem State.logExt_extLog (e : ExtEvent) : (s.logExt e).extLog = e :: s.extLog := rfl
@[simp] theorem State.request_intRequest (i : Source) :
    (s.request i).intRequest = s.intRequest ||| i.mask := rfl
@[simp] theorem State.clearRequest_intRequest (i : Source) :
    (s.clearRequest i).intRequest = s.intRequest &&& ~~~ i.mask := rfl
@[simp] theorem State.enterHandler_intRequest (i : Source) :
    (s.enterHandler i).intRequest = s.intRequest &&& ~~~ i.mask := rfl
@[simp] theorem State.enterHandler_ime (i : Source) : (s.enterHandler i).ime = false := rfl
@[simp] theorem State.enterHandler_imeSched (i : Source) :
    (s.enterHandler i).imeSched = false := rfl
@[simp] theorem State.enterHandler_halted (i : Source) : (s.enterHandler i).halted = false := rfl
@[simp] theorem State.enterHandler_haltBugArmed (i : Source) :
    (s.enterHandler i).haltBugArmed = false := rfl

end regs

/-! ### The cells of the register file after a write of one of them -/

section set
variable (g : RegFile) (r : Reg8) (v : Byte)

@[simp] theorem RegFile.set_f : (g.set r v).f = g.f := by cases r <;> rfl
@[simp] theorem RegFile.set_sp : (g.set r v).sp = g.sp := by cases r <;> rfl
@[simp] theorem RegFile.set_pc : (g.set r v).pc = g.pc := by cases r <;> rfl

@[simp] theorem RegFile.set_b_b : (g.set .b v).b = v := rfl
@[simp] theorem RegFile.set_b_c : (g.set .b v).c = g.c := rfl
@[simp] theorem RegFile.set_b_d : (g.set .b v).d = g.d := rfl
@[simp] theorem RegFile.set_b_e : (g.set .b v).e = g.e := rfl
@[simp] theorem RegFile.set_b_h : (g.set .b v).h = g.h := rfl
@[simp] theorem RegFile.set_b_l : (g.set .b v).l = g.l := rfl
@[simp] theorem RegFile.set_b_a : (g.set .b v).a = g.a := rfl
@[simp] theorem RegFile.set_c_b : (g.set .c v).b = g.b := rfl
@[simp] theorem RegFile.set_c_c : (g.set .c v).c = v := rfl
@[simp] theorem RegFile.set_c_d : (g.set .c v).d = g.d := rfl
@[simp] theorem RegFile.set_c_e : (g.set .c v).e = g.e := rfl
@[simp] theorem RegFile.set_c_h : (g.set .c v).h = g.h := rfl
@[simp] theorem RegFile.set_c_l : (g.set .c v).l = g.l := rfl
@[simp] theorem RegFile.set_c_a : (g.set .c v).a = g.a := rfl
@[simp] theorem RegFile.set_d_b : (g.set .d v).b = g.b := rfl
@[simp] theorem RegFile.set_d_c : (g.set .d v).c = g.c := rfl
@[simp] theorem RegFile.set_d_d : (g.set .d v).d = v := rfl
@[simp] theorem RegFile.set_d_e : (g.set .d v).e = g.e := rfl
@[simp] theorem RegFile.set_d_h : (g.set .d v).h = g.h := rfl
@[simp] theorem RegFile.set_d_l : (g.set .d v).l = g.l := rfl
@[simp] theorem RegFile.set_d_a : (g.set .d v).a = g.a := rfl
@[simp] theorem RegFile.set_e_b : (g.set .e v).b = g.b := rfl
@[simp] theorem RegFile.set_e_c : (g.set .e v).c = g.c := rfl
@[simp] theorem RegFile.set_e_d : (g.set .e v).d = g.d := rfl
@[simp] theorem RegFile.set_e_e : (g.set .e v).e = v := rfl
@[simp] theorem RegFile.set_e_h : (g.set .e v).h = g.h := rfl
@[simp] theorem RegFile.set_e_l : (g.set .e v).l = g.l := rfl
@[simp] theorem RegFile.set_e_a : (g.set .e v).a = g.a := rfl
@[simp] theorem RegFile.set_h_b : (g.set .h v).b = g.b := rfl
@[simp] theorem RegFile.set_h_c : (g.set .h v).c = g.c := rfl
@[simp] theorem RegFile.set_h_d : (g.set .h v).d = g.d := rfl
@[simp] theorem RegFile.set_h_e : (g.set .h v).e = g.e := rfl
@[simp] theorem RegFile.set_h_h : (g.set .h v).h = v := rfl
@[simp] theorem RegFile.set_h_l : (g.set .h v).l = g.l := rfl
@[simp] theorem RegFile.set_h_a : (g.set .h v).a = g.a := rfl
@[simp] theorem RegFile.set_l_b : (g.set .l v).b = g.b := rfl
@[simp] theorem RegFile.set_l_c : (g.set .l v).c = g.c := rfl
@[simp] theorem RegFile.set_l_d : (g.set .l v).d = g.d := rfl
@[simp] theorem RegFile.set_l_e : (g.set .l v).e = g.e := rfl
@[simp] theorem RegFile.set_l_h : (g.set .l v).h = g.h := rfl
@[simp] theorem RegFile.set_l_l : (g.set .l v).l = v := rfl
@[simp] theorem RegFile.set_l_a : (g.set .l v).a = g.a := rfl
@[simp] theorem RegFile.set_a_b : (g.set .a v).b = g.b := rfl
@[simp] theorem RegFile.set_a_c : (g.set .a v).c = g.c := rfl
@[simp] theorem RegFile.set_a_d : (g.set .a v).d = g.d := rfl
@[simp] theorem RegFile.set_a_e : (g.set .a v).e = g.e := rfl
@[simp] theorem RegFile.set_a_h : (g.set .a v).h = g.h := rfl
@[simp] theorem RegFile.set_a_l : (g.set .a v).l = g.l := rfl
@[simp] theorem RegFile.set_a_a : (g.set .a v).a = v := rfl

end set

/-- Reading the register just written. -/
@[simp] theorem State.getReg_setReg_same (s : State) (r : Reg8) (v : Byte) :
    (s.setReg r v).getReg r = v := by cases r <;> rfl

/-- Reading another register than the one written. -/
theorem State.getReg_setReg_other (s : State) (r r' : Reg8) (v : Byte) (h : r' ≠ r) :
    (s.setReg r v).getReg r' = s.getReg r' := by
  cases r <;> cases r' <;> first | rfl | exact absurd rfl h

/-- The pair written, whole or by halves. -/
theorem State.setPair_regs (s : State) (rr : Reg16) (v : Word) :
    (s.setPair rr v).regs = match rr with
      | .bc => { s.regs with b := hiByte v, c := loByte v }
      | .de => { s.regs with d := hiByte v, e := loByte v }
      | .hl => { s.regs with h := hiByte v, l := loByte v }
      | .sp => { s.regs with sp := v } := by cases rr <;> rfl

/-- Two states with one register file, cycles and latch, equal elsewhere, are one state. -/
theorem State.finish_eq_ends (s : State) (len n : Nat) :
    s.finish len n = s.ends s.regs (s.next len) n := rfl

/-- The following instruction's address does not depend on what an instruction writes. -/
theorem State.next_congr {s t : State} (hp : t.regs.pc = s.regs.pc)
    (hb : t.haltBugArmed = s.haltBugArmed) (len : Nat) : t.next len = s.next len := by
  unfold State.next; rw [hp, hb]

/-- With no `HALT` bug armed, the following address is `pc + len` (10_state R28). -/
theorem State.next_of_not_armed (s : State) (h : s.haltBugArmed = false) (len : Nat) :
    s.next len = s.regs.pc + BitVec.ofNat 16 len := by
  unfold State.next; simp [h]

end Sys2Proof.Machine
end

