-- ==== Sys2Proof/Laws/Bits.lean ====
section
/-! SUPPORT. Bytes and words as numbers, the packed flag byte, the results of the 8-bit operations. -/

namespace Sys2Proof.Machine

/-! ### The halves of a word -/

theorem hiByte_toNat (v : Word) : (hiByte v).toNat = v.toNat / 256 := by
  have := v.isLt
  simp only [hiByte, BitVec.extractLsb'_toNat, Nat.shiftRight_eq_div_pow]
  omega

theorem loByte_toNat (v : Word) : (loByte v).toNat = v.toNat % 256 := by
  simp [loByte, BitVec.extractLsb'_toNat]

theorem join_toNat (hi lo : Byte) : (join hi lo).toNat = hi.toNat * 256 + lo.toNat := by
  have h : lo.toNat < 2 ^ 8 := lo.isLt
  simp only [join, BitVec.toNat_append]
  rw [← Nat.shiftLeft_add_eq_or_of_lt h, Nat.shiftLeft_eq]

@[simp] theorem hiByte_join (hi lo : Byte) : hiByte (join hi lo) = hi := by
  apply BitVec.eq_of_toNat_eq
  have := lo.isLt
  rw [hiByte_toNat, join_toNat]; omega

@[simp] theorem loByte_join (hi lo : Byte) : loByte (join hi lo) = lo := by
  apply BitVec.eq_of_toNat_eq
  have := lo.isLt
  rw [loByte_toNat, join_toNat]; omega

@[simp] theorem join_hiByte_loByte (v : Word) : join (hiByte v) (loByte v) = v := by
  apply BitVec.eq_of_toNat_eq
  rw [join_toNat, hiByte_toNat, loByte_toNat]; omega

/-! ### The packed flags -/

@[simp] theorem maskF_packFlags (z n h c : Bool) : maskF (packFlags z n h c) = packFlags z n h c := by
  cases z <;> cases n <;> cases h <;> cases c <;> rfl

theorem packFlags_bits : ∀ z n h c : Bool,
    (packFlags z n h c).getLsbD 7 = z ∧ (packFlags z n h c).getLsbD 6 = n ∧
      (packFlags z n h c).getLsbD 5 = h ∧ (packFlags z n h c).getLsbD 4 = c := by decide

theorem State.setFlags_regs (s : State) (z n h c : Bool) :
    (s.setFlags z n h c).regs = s.regs.withFlags z n h c := by
  simp [State.setFlags, State.setF, RegFile.withFlags]

@[simp] theorem State.setFlags_flagZ (s : State) (z n h c : Bool) :
    (s.setFlags z n h c).flagZ = z := by
  simp only [State.flagZ, State.setFlags_regs, RegFile.withFlags]
  exact (packFlags_bits z n h c).1

@[simp] theorem State.setFlags_flagN (s : State) (z n h c : Bool) :
    (s.setFlags z n h c).flagN = n := by
  simp only [State.flagN, State.setFlags_regs, RegFile.withFlags]
  exact (packFlags_bits z n h c).2.1

@[simp] theorem State.setFlags_flagH (s : State) (z n h c : Bool) :
    (s.setFlags z n h c).flagH = h := by
  simp only [State.flagH, State.setFlags_regs, RegFile.withFlags]
  exact (packFlags_bits z n h c).2.2.1

@[simp] theorem State.setFlags_flagC (s : State) (z n h c : Bool) :
    (s.setFlags z n h c).flagC = c := by
  simp only [State.flagC, State.setFlags_regs, RegFile.withFlags]
  exact (packFlags_bits z n h c).2.2.2

/-- The flags are functions of `F`. -/
theorem State.flags_congr {s t : State} (h : t.regs.f = s.regs.f) :
    t.flagZ = s.flagZ ∧ t.flagN = s.flagN ∧ t.flagH = s.flagH ∧ t.flagC = s.flagC := by
  unfold State.flagZ State.flagN State.flagH State.flagC
  rw [h]; exact ⟨rfl, rfl, rfl, rfl⟩

/-- The low nibble of a masked byte is zero (10_state R24). -/
theorem maskF_low (v : Byte) : maskF v &&& 0x0F#8 = 0x00#8 := by
  unfold maskF
  rw [BitVec.and_assoc]
  rw [show (0xF0#8 &&& 0x0F#8 : Byte) = 0#8 from rfl, BitVec.and_zero]

/-! ### The end of an instruction after an operation that leaves the registers -/

/-- Finishing a state whose `pc` and latch are those of `s` (40_load8 R180 (3)). -/
theorem State.finish_of_same {s t : State} (hp : t.regs.pc = s.regs.pc)
    (hb : t.haltBugArmed = s.haltBugArmed) (len n : Nat) :
    t.finish len n = t.ends t.regs (s.next len) n := by
  unfold State.finish State.jump State.ends State.setPc
  rw [State.next_congr hp hb]

end Sys2Proof.Machine
end

