-- ==== Sys2Proof/Laws/ByFamily.lean ====
section
/-! SUPPORT. The opcode table by families: a property of all instructions from its families, and what
`exec` does with each family. -/

namespace Sys2Proof

/-- A property that holds of every family and of every instruction that stands alone holds of every
instruction. -/
theorem Instr.byFamily {P : Instr → Prop}
    (ldReg : ∀ (r r' : Reg8), P (.ldReg r r'))
    (ldImm : ∀ (r : Reg8) (n : Byte), P (.ldImm r n))
    (ldFromHl : ∀ (r : Reg8), P (.ldFromHl r))
    (ldToHl : ∀ (r : Reg8), P (.ldToHl r))
    (ldPair : ∀ (rr : Reg16) (nn : Word), P (.ldPair rr nn))
    (push : ∀ (qq : StackReg), P (.push qq))
    (pop : ∀ (qq : StackReg), P (.pop qq))
    (alu : ∀ (op : AluOp) (x : Loc), P (.alu op x))
    (aluImm : ∀ (op : AluOp) (n : Byte), P (.aluImm op n))
    (incReg : ∀ (r : Reg8), P (.incReg r))
    (decReg : ∀ (r : Reg8), P (.decReg r))
    (addHl : ∀ (rr : Reg16), P (.addHl rr))
    (incPair : ∀ (rr : Reg16), P (.incPair rr))
    (decPair : ∀ (rr : Reg16), P (.decPair rr))
    (rot : ∀ (op : RotOp) (x : Loc), P (.rot op x))
    (bit : ∀ (b : Fin 8) (x : Loc), P (.bit b x))
    (res : ∀ (b : Fin 8) (x : Loc), P (.res b x))
    (setBit : ∀ (b : Fin 8) (x : Loc), P (.setBit b x))
    (jpCc : ∀ (cc : Cond) (nn : Word), P (.jpCc cc nn))
    (jrCc : ∀ (cc : Cond) (e : Byte), P (.jrCc cc e))
    (callCc : ∀ (cc : Cond) (nn : Word), P (.callCc cc nn))
    (retCc : ∀ (cc : Cond), P (.retCc cc))
    (rst : ∀ (y : Fin 8), P (.rst y))
    (invalid : ∀ (x : BadByte), P (.invalid x))
    (nop : P .nop) (ldAtBcA : P .ldAtBcA) (rlca : P .rlca) (ldAtNnSp : ∀ nn, P (.ldAtNnSp nn))
    (ldAAtBc : P .ldAAtBc) (rrca : P .rrca) (stop : ∀ n, P (.stop n)) (ldAtDeA : P .ldAtDeA)
    (rla : P .rla) (jrE : ∀ e, P (.jrE e)) (ldAAtDe : P .ldAAtDe) (rra : P .rra)
    (ldAtHlIncA : P .ldAtHlIncA) (daa : P .daa) (ldAAtHlInc : P .ldAAtHlInc) (cpl : P .cpl)
    (ldAtHlDecA : P .ldAtHlDecA) (incAtHl : P .incAtHl) (decAtHl : P .decAtHl)
    (ldAtHlN : ∀ n, P (.ldAtHlN n)) (scf : P .scf) (ldAAtHlDec : P .ldAAtHlDec) (ccf : P .ccf)
    (halt : P .halt) (jpNn : ∀ nn, P (.jpNn nn)) (ret : P .ret) (callNn : ∀ nn, P (.callNn nn))
    (reti : P .reti) (ldhAtNA : ∀ n, P (.ldhAtNA n)) (ldhAtCA : P .ldhAtCA)
    (addSpE : ∀ e, P (.addSpE e)) (jpHl : P .jpHl) (ldAtNnA : ∀ nn, P (.ldAtNnA nn))
    (ldhAAtN : ∀ n, P (.ldhAAtN n)) (ldhAAtC : P .ldhAAtC) (di : P .di)
    (ldHlSpE : ∀ e, P (.ldHlSpE e)) (ldSpHl : P .ldSpHl) (ldAAtNn : ∀ nn, P (.ldAAtNn nn))
    (ei : P .ei) :
    ∀ i, P i
  | .nop => nop
  | .ldBcNn nn => ldPair .bc nn
  | .ldAtBcA => ldAtBcA
  | .incBc => incPair .bc
  | .incB => incReg .b
  | .decB => decReg .b
  | .ldBN n => ldImm .b n
  | .rlca => rlca
  | .ldAtNnSp nn => ldAtNnSp nn
  | .addHlBc => addHl .bc
  | .ldAAtBc => ldAAtBc
  | .decBc => decPair .bc
  | .incC => incReg .c
  | .decC => decReg .c
  | .ldCN n => ldImm .c n
  | .rrca => rrca
  | .stop n => stop n
  | .ldDeNn nn => ldPair .de nn
  | .ldAtDeA => ldAtDeA
  | .incDe => incPair .de
  | .incD => incReg .d
  | .decD => decReg .d
  | .ldDN n => ldImm .d n
  | .rla => rla
  | .jrE e => jrE e
  | .addHlDe => addHl .de
  | .ldAAtDe => ldAAtDe
  | .decDe => decPair .de
  | .incE => incReg .e
  | .decE => decReg .e
  | .ldEN n => ldImm .e n
  | .rra => rra
  | .jrNzE e => jrCc .nz e
  | .ldHlNn nn => ldPair .hl nn
  | .ldAtHlIncA => ldAtHlIncA
  | .incHl => incPair .hl
  | .incH => incReg .h
  | .decH => decReg .h
  | .ldHN n => ldImm .h n
  | .daa => daa
  | .jrZE e => jrCc .z e
  | .addHlHl => addHl .hl
  | .ldAAtHlInc => ldAAtHlInc
  | .decHl => decPair .hl
  | .incL => incReg .l
  | .decL => decReg .l
  | .ldLN n => ldImm .l n
  | .cpl => cpl
  | .jrNcE e => jrCc .nc e
  | .ldSpNn nn => ldPair .sp nn
  | .ldAtHlDecA => ldAtHlDecA
  | .incSp => incPair .sp
  | .incAtHl => incAtHl
  | .decAtHl => decAtHl
  | .ldAtHlN n => ldAtHlN n
  | .scf => scf
  | .jrCE e => jrCc .c e
  | .addHlSp => addHl .sp
  | .ldAAtHlDec => ldAAtHlDec
  | .decSp => decPair .sp
  | .incA => incReg .a
  | .decA => decReg .a
  | .ldAN n => ldImm .a n
  | .ccf => ccf
  | .ldBB => ldReg .b .b
  | .ldBC => ldReg .b .c
  | .ldBD => ldReg .b .d
  | .ldBE => ldReg .b .e
  | .ldBH => ldReg .b .h
  | .ldBL => ldReg .b .l
  | .ldBAtHl => ldFromHl .b
  | .ldBA => ldReg .b .a
  | .ldCB => ldReg .c .b
  | .ldCC => ldReg .c .c
  | .ldCD => ldReg .c .d
  | .ldCE => ldReg .c .e
  | .ldCH => ldReg .c .h
  | .ldCL => ldReg .c .l
  | .ldCAtHl => ldFromHl .c
  | .ldCA => ldReg .c .a
  | .ldDB => ldReg .d .b
  | .ldDC => ldReg .d .c
  | .ldDD => ldReg .d .d
  | .ldDE => ldReg .d .e
  | .ldDH => ldReg .d .h
  | .ldDL => ldReg .d .l
  | .ldDAtHl => ldFromHl .d
  | .ldDA => ldReg .d .a
  | .ldEB => ldReg .e .b
  | .ldEC => ldReg .e .c
  | .ldED => ldReg .e .d
  | .ldEE => ldReg .e .e
  | .ldEH => ldReg .e .h
  | .ldEL => ldReg .e .l
  | .ldEAtHl => ldFromHl .e
  | .ldEA => ldReg .e .a
  | .ldHB => ldReg .h .b
  | .ldHC => ldReg .h .c
  | .ldHD => ldReg .h .d
  | .ldHE => ldReg .h .e
  | .ldHH => ldReg .h .h
  | .ldHL => ldReg .h .l
  | .ldHAtHl => ldFromHl .h
  | .ldHA => ldReg .h .a
  | .ldLB => ldReg .l .b
  | .ldLC => ldReg .l .c
  | .ldLD => ldReg .l .d
  | .ldLE => ldReg .l .e
  | .ldLH => ldReg .l .h
  | .ldLL => ldReg .l .l
  | .ldLAtHl => ldFromHl .l
  | .ldLA => ldReg .l .a
  | .ldAtHlB => ldToHl .b
  | .ldAtHlC => ldToHl .c
  | .ldAtHlD => ldToHl .d
  | .ldAtHlE => ldToHl .e
  | .ldAtHlH => ldToHl .h
  | .ldAtHlL => ldToHl .l
  | .halt => halt
  | .ldAtHlA => ldToHl .a
  | .ldAB => ldReg .a .b
  | .ldAC => ldReg .a .c
  | .ldAD => ldReg .a .d
  | .ldAE => ldReg .a .e
  | .ldAH => ldReg .a .h
  | .ldAL => ldReg .a .l
  | .ldAAtHl => ldFromHl .a
  | .ldAA => ldReg .a .a
  | .addAB => alu .add ((.reg .b))
  | .addAC => alu .add ((.reg .c))
  | .addAD => alu .add ((.reg .d))
  | .addAE => alu .add ((.reg .e))
  | .addAH => alu .add ((.reg .h))
  | .addAL => alu .add ((.reg .l))
  | .addAAtHl => alu .add .atHl
  | .addAA => alu .add ((.reg .a))
  | .adcAB => alu .adc ((.reg .b))
  | .adcAC => alu .adc ((.reg .c))
  | .adcAD => alu .adc ((.reg .d))
  | .adcAE => alu .adc ((.reg .e))
  | .adcAH => alu .adc ((.reg .h))
  | .adcAL => alu .adc ((.reg .l))
  | .adcAAtHl => alu .adc .atHl
  | .adcAA => alu .adc ((.reg .a))
  | .subB => alu .sub ((.reg .b))
  | .subC => alu .sub ((.reg .c))
  | .subD => alu .sub ((.reg .d))
  | .subE => alu .sub ((.reg .e))
  | .subH => alu .sub ((.reg .h))
  | .subL => alu .sub ((.reg .l))
  | .subAtHl => alu .sub .atHl
  | .subA => alu .sub ((.reg .a))
  | .sbcAB => alu .sbc ((.reg .b))
  | .sbcAC => alu .sbc ((.reg .c))
  | .sbcAD => alu .sbc ((.reg .d))
  | .sbcAE => alu .sbc ((.reg .e))
  | .sbcAH => alu .sbc ((.reg .h))
  | .sbcAL => alu .sbc ((.reg .l))
  | .sbcAAtHl => alu .sbc .atHl
  | .sbcAA => alu .sbc ((.reg .a))
  | .andB => alu .and ((.reg .b))
  | .andC => alu .and ((.reg .c))
  | .andD => alu .and ((.reg .d))
  | .andE => alu .and ((.reg .e))
  | .andH => alu .and ((.reg .h))
  | .andL => alu .and ((.reg .l))
  | .andAtHl => alu .and .atHl
  | .andA => alu .and ((.reg .a))
  | .xorB => alu .xor ((.reg .b))
  | .xorC => alu .xor ((.reg .c))
  | .xorD => alu .xor ((.reg .d))
  | .xorE => alu .xor ((.reg .e))
  | .xorH => alu .xor ((.reg .h))
  | .xorL => alu .xor ((.reg .l))
  | .xorAtHl => alu .xor .atHl
  | .xorA => alu .xor ((.reg .a))
  | .orB => alu .or ((.reg .b))
  | .orC => alu .or ((.reg .c))
  | .orD => alu .or ((.reg .d))
  | .orE => alu .or ((.reg .e))
  | .orH => alu .or ((.reg .h))
  | .orL => alu .or ((.reg .l))
  | .orAtHl => alu .or .atHl
  | .orA => alu .or ((.reg .a))
  | .cpB => alu .cp ((.reg .b))
  | .cpC => alu .cp ((.reg .c))
  | .cpD => alu .cp ((.reg .d))
  | .cpE => alu .cp ((.reg .e))
  | .cpH => alu .cp ((.reg .h))
  | .cpL => alu .cp ((.reg .l))
  | .cpAtHl => alu .cp .atHl
  | .cpA => alu .cp ((.reg .a))
  | .retNz => retCc .nz
  | .popBc => pop .bc
  | .jpNzNn nn => jpCc .nz nn
  | .jpNn nn => jpNn nn
  | .callNzNn nn => callCc .nz nn
  | .pushBc => push .bc
  | .addAN n => aluImm .add n
  | .rst00 => rst 0
  | .retZ => retCc .z
  | .ret => ret
  | .jpZNn nn => jpCc .z nn
  | .callZNn nn => callCc .z nn
  | .callNn nn => callNn nn
  | .adcAN n => aluImm .adc n
  | .rst08 => rst 1
  | .retNc => retCc .nc
  | .popDe => pop .de
  | .jpNcNn nn => jpCc .nc nn
  | .invalidD3 => invalid .xD3
  | .callNcNn nn => callCc .nc nn
  | .pushDe => push .de
  | .subN n => aluImm .sub n
  | .rst10 => rst 2
  | .retC => retCc .c
  | .reti => reti
  | .jpCNn nn => jpCc .c nn
  | .invalidDB => invalid .xDB
  | .callCNn nn => callCc .c nn
  | .invalidDD => invalid .xDD
  | .sbcAN n => aluImm .sbc n
  | .rst18 => rst 3
  | .ldhAtNA n => ldhAtNA n
  | .popHl => pop .hl
  | .ldhAtCA => ldhAtCA
  | .invalidE3 => invalid .xE3
  | .invalidE4 => invalid .xE4
  | .pushHl => push .hl
  | .andN n => aluImm .and n
  | .rst20 => rst 4
  | .addSpE e => addSpE e
  | .jpHl => jpHl
  | .ldAtNnA nn => ldAtNnA nn
  | .invalidEB => invalid .xEB
  | .invalidEC => invalid .xEC
  | .invalidED => invalid .xED
  | .xorN n => aluImm .xor n
  | .rst28 => rst 5
  | .ldhAAtN n => ldhAAtN n
  | .popAf => pop .af
  | .ldhAAtC => ldhAAtC
  | .di => di
  | .invalidF4 => invalid .xF4
  | .pushAf => push .af
  | .orN n => aluImm .or n
  | .rst30 => rst 6
  | .ldHlSpE e => ldHlSpE e
  | .ldSpHl => ldSpHl
  | .ldAAtNn nn => ldAAtNn nn
  | .ei => ei
  | .invalidFC => invalid .xFC
  | .invalidFD => invalid .xFD
  | .cpN n => aluImm .cp n
  | .rst38 => rst 7
  | .rlcB => rot .rlc ((.reg .b))
  | .rlcC => rot .rlc ((.reg .c))
  | .rlcD => rot .rlc ((.reg .d))
  | .rlcE => rot .rlc ((.reg .e))
  | .rlcH => rot .rlc ((.reg .h))
  | .rlcL => rot .rlc ((.reg .l))
  | .rlcAtHl => rot .rlc .atHl
  | .rlcA => rot .rlc ((.reg .a))
  | .rrcB => rot .rrc ((.reg .b))
  | .rrcC => rot .rrc ((.reg .c))
  | .rrcD => rot .rrc ((.reg .d))
  | .rrcE => rot .rrc ((.reg .e))
  | .rrcH => rot .rrc ((.reg .h))
  | .rrcL => rot .rrc ((.reg .l))
  | .rrcAtHl => rot .rrc .atHl
  | .rrcA => rot .rrc ((.reg .a))
  | .rlB => rot .rl ((.reg .b))
  | .rlC => rot .rl ((.reg .c))
  | .rlD => rot .rl ((.reg .d))
  | .rlE => rot .rl ((.reg .e))
  | .rlH => rot .rl ((.reg .h))
  | .rlL => rot .rl ((.reg .l))
  | .rlAtHl => rot .rl .atHl
  | .rlA => rot .rl ((.reg .a))
  | .rrB => rot .rr ((.reg .b))
  | .rrC => rot .rr ((.reg .c))
  | .rrD => rot .rr ((.reg .d))
  | .rrE => rot .rr ((.reg .e))
  | .rrH => rot .rr ((.reg .h))
  | .rrL => rot .rr ((.reg .l))
  | .rrAtHl => rot .rr .atHl
  | .rrA => rot .rr ((.reg .a))
  | .slaB => rot .sla ((.reg .b))
  | .slaC => rot .sla ((.reg .c))
  | .slaD => rot .sla ((.reg .d))
  | .slaE => rot .sla ((.reg .e))
  | .slaH => rot .sla ((.reg .h))
  | .slaL => rot .sla ((.reg .l))
  | .slaAtHl => rot .sla .atHl
  | .slaA => rot .sla ((.reg .a))
  | .sraB => rot .sra ((.reg .b))
  | .sraC => rot .sra ((.reg .c))
  | .sraD => rot .sra ((.reg .d))
  | .sraE => rot .sra ((.reg .e))
  | .sraH => rot .sra ((.reg .h))
  | .sraL => rot .sra ((.reg .l))
  | .sraAtHl => rot .sra .atHl
  | .sraA => rot .sra ((.reg .a))
  | .swapB => rot .swap ((.reg .b))
  | .swapC => rot .swap ((.reg .c))
  | .swapD => rot .swap ((.reg .d))
  | .swapE => rot .swap ((.reg .e))
  | .swapH => rot .swap ((.reg .h))
  | .swapL => rot .swap ((.reg .l))
  | .swapAtHl => rot .swap .atHl
  | .swapA => rot .swap ((.reg .a))
  | .srlB => rot .srl ((.reg .b))
  | .srlC => rot .srl ((.reg .c))
  | .srlD => rot .srl ((.reg .d))
  | .srlE => rot .srl ((.reg .e))
  | .srlH => rot .srl ((.reg .h))
  | .srlL => rot .srl ((.reg .l))
  | .srlAtHl => rot .srl .atHl
  | .srlA => rot .srl ((.reg .a))
  | .bit0B => bit 0 ((.reg .b))
  | .bit0C => bit 0 ((.reg .c))
  | .bit0D => bit 0 ((.reg .d))
  | .bit0E => bit 0 ((.reg .e))
  | .bit0H => bit 0 ((.reg .h))
  | .bit0L => bit 0 ((.reg .l))
  | .bit0AtHl => bit 0 .atHl
  | .bit0A => bit 0 ((.reg .a))
  | .bit1B => bit 1 ((.reg .b))
  | .bit1C => bit 1 ((.reg .c))
  | .bit1D => bit 1 ((.reg .d))
  | .bit1E => bit 1 ((.reg .e))
  | .bit1H => bit 1 ((.reg .h))
  | .bit1L => bit 1 ((.reg .l))
  | .bit1AtHl => bit 1 .atHl
  | .bit1A => bit 1 ((.reg .a))
  | .bit2B => bit 2 ((.reg .b))
  | .bit2C => bit 2 ((.reg .c))
  | .bit2D => bit 2 ((.reg .d))
  | .bit2E => bit 2 ((.reg .e))
  | .bit2H => bit 2 ((.reg .h))
  | .bit2L => bit 2 ((.reg .l))
  | .bit2AtHl => bit 2 .atHl
  | .bit2A => bit 2 ((.reg .a))
  | .bit3B => bit 3 ((.reg .b))
  | .bit3C => bit 3 ((.reg .c))
  | .bit3D => bit 3 ((.reg .d))
  | .bit3E => bit 3 ((.reg .e))
  | .bit3H => bit 3 ((.reg .h))
  | .bit3L => bit 3 ((.reg .l))
  | .bit3AtHl => bit 3 .atHl
  | .bit3A => bit 3 ((.reg .a))
  | .bit4B => bit 4 ((.reg .b))
  | .bit4C => bit 4 ((.reg .c))
  | .bit4D => bit 4 ((.reg .d))
  | .bit4E => bit 4 ((.reg .e))
  | .bit4H => bit 4 ((.reg .h))
  | .bit4L => bit 4 ((.reg .l))
  | .bit4AtHl => bit 4 .atHl
  | .bit4A => bit 4 ((.reg .a))
  | .bit5B => bit 5 ((.reg .b))
  | .bit5C => bit 5 ((.reg .c))
  | .bit5D => bit 5 ((.reg .d))
  | .bit5E => bit 5 ((.reg .e))
  | .bit5H => bit 5 ((.reg .h))
  | .bit5L => bit 5 ((.reg .l))
  | .bit5AtHl => bit 5 .atHl
  | .bit5A => bit 5 ((.reg .a))
  | .bit6B => bit 6 ((.reg .b))
  | .bit6C => bit 6 ((.reg .c))
  | .bit6D => bit 6 ((.reg .d))
  | .bit6E => bit 6 ((.reg .e))
  | .bit6H => bit 6 ((.reg .h))
  | .bit6L => bit 6 ((.reg .l))
  | .bit6AtHl => bit 6 .atHl
  | .bit6A => bit 6 ((.reg .a))
  | .bit7B => bit 7 ((.reg .b))
  | .bit7C => bit 7 ((.reg .c))
  | .bit7D => bit 7 ((.reg .d))
  | .bit7E => bit 7 ((.reg .e))
  | .bit7H => bit 7 ((.reg .h))
  | .bit7L => bit 7 ((.reg .l))
  | .bit7AtHl => bit 7 .atHl
  | .bit7A => bit 7 ((.reg .a))
  | .res0B => res 0 ((.reg .b))
  | .res0C => res 0 ((.reg .c))
  | .res0D => res 0 ((.reg .d))
  | .res0E => res 0 ((.reg .e))
  | .res0H => res 0 ((.reg .h))
  | .res0L => res 0 ((.reg .l))
  | .res0AtHl => res 0 .atHl
  | .res0A => res 0 ((.reg .a))
  | .res1B => res 1 ((.reg .b))
  | .res1C => res 1 ((.reg .c))
  | .res1D => res 1 ((.reg .d))
  | .res1E => res 1 ((.reg .e))
  | .res1H => res 1 ((.reg .h))
  | .res1L => res 1 ((.reg .l))
  | .res1AtHl => res 1 .atHl
  | .res1A => res 1 ((.reg .a))
  | .res2B => res 2 ((.reg .b))
  | .res2C => res 2 ((.reg .c))
  | .res2D => res 2 ((.reg .d))
  | .res2E => res 2 ((.reg .e))
  | .res2H => res 2 ((.reg .h))
  | .res2L => res 2 ((.reg .l))
  | .res2AtHl => res 2 .atHl
  | .res2A => res 2 ((.reg .a))
  | .res3B => res 3 ((.reg .b))
  | .res3C => res 3 ((.reg .c))
  | .res3D => res 3 ((.reg .d))
  | .res3E => res 3 ((.reg .e))
  | .res3H => res 3 ((.reg .h))
  | .res3L => res 3 ((.reg .l))
  | .res3AtHl => res 3 .atHl
  | .res3A => res 3 ((.reg .a))
  | .res4B => res 4 ((.reg .b))
  | .res4C => res 4 ((.reg .c))
  | .res4D => res 4 ((.reg .d))
  | .res4E => res 4 ((.reg .e))
  | .res4H => res 4 ((.reg .h))
  | .res4L => res 4 ((.reg .l))
  | .res4AtHl => res 4 .atHl
  | .res4A => res 4 ((.reg .a))
  | .res5B => res 5 ((.reg .b))
  | .res5C => res 5 ((.reg .c))
  | .res5D => res 5 ((.reg .d))
  | .res5E => res 5 ((.reg .e))
  | .res5H => res 5 ((.reg .h))
  | .res5L => res 5 ((.reg .l))
  | .res5AtHl => res 5 .atHl
  | .res5A => res 5 ((.reg .a))
  | .res6B => res 6 ((.reg .b))
  | .res6C => res 6 ((.reg .c))
  | .res6D => res 6 ((.reg .d))
  | .res6E => res 6 ((.reg .e))
  | .res6H => res 6 ((.reg .h))
  | .res6L => res 6 ((.reg .l))
  | .res6AtHl => res 6 .atHl
  | .res6A => res 6 ((.reg .a))
  | .res7B => res 7 ((.reg .b))
  | .res7C => res 7 ((.reg .c))
  | .res7D => res 7 ((.reg .d))
  | .res7E => res 7 ((.reg .e))
  | .res7H => res 7 ((.reg .h))
  | .res7L => res 7 ((.reg .l))
  | .res7AtHl => res 7 .atHl
  | .res7A => res 7 ((.reg .a))
  | .set0B => setBit 0 ((.reg .b))
  | .set0C => setBit 0 ((.reg .c))
  | .set0D => setBit 0 ((.reg .d))
  | .set0E => setBit 0 ((.reg .e))
  | .set0H => setBit 0 ((.reg .h))
  | .set0L => setBit 0 ((.reg .l))
  | .set0AtHl => setBit 0 .atHl
  | .set0A => setBit 0 ((.reg .a))
  | .set1B => setBit 1 ((.reg .b))
  | .set1C => setBit 1 ((.reg .c))
  | .set1D => setBit 1 ((.reg .d))
  | .set1E => setBit 1 ((.reg .e))
  | .set1H => setBit 1 ((.reg .h))
  | .set1L => setBit 1 ((.reg .l))
  | .set1AtHl => setBit 1 .atHl
  | .set1A => setBit 1 ((.reg .a))
  | .set2B => setBit 2 ((.reg .b))
  | .set2C => setBit 2 ((.reg .c))
  | .set2D => setBit 2 ((.reg .d))
  | .set2E => setBit 2 ((.reg .e))
  | .set2H => setBit 2 ((.reg .h))
  | .set2L => setBit 2 ((.reg .l))
  | .set2AtHl => setBit 2 .atHl
  | .set2A => setBit 2 ((.reg .a))
  | .set3B => setBit 3 ((.reg .b))
  | .set3C => setBit 3 ((.reg .c))
  | .set3D => setBit 3 ((.reg .d))
  | .set3E => setBit 3 ((.reg .e))
  | .set3H => setBit 3 ((.reg .h))
  | .set3L => setBit 3 ((.reg .l))
  | .set3AtHl => setBit 3 .atHl
  | .set3A => setBit 3 ((.reg .a))
  | .set4B => setBit 4 ((.reg .b))
  | .set4C => setBit 4 ((.reg .c))
  | .set4D => setBit 4 ((.reg .d))
  | .set4E => setBit 4 ((.reg .e))
  | .set4H => setBit 4 ((.reg .h))
  | .set4L => setBit 4 ((.reg .l))
  | .set4AtHl => setBit 4 .atHl
  | .set4A => setBit 4 ((.reg .a))
  | .set5B => setBit 5 ((.reg .b))
  | .set5C => setBit 5 ((.reg .c))
  | .set5D => setBit 5 ((.reg .d))
  | .set5E => setBit 5 ((.reg .e))
  | .set5H => setBit 5 ((.reg .h))
  | .set5L => setBit 5 ((.reg .l))
  | .set5AtHl => setBit 5 .atHl
  | .set5A => setBit 5 ((.reg .a))
  | .set6B => setBit 6 ((.reg .b))
  | .set6C => setBit 6 ((.reg .c))
  | .set6D => setBit 6 ((.reg .d))
  | .set6E => setBit 6 ((.reg .e))
  | .set6H => setBit 6 ((.reg .h))
  | .set6L => setBit 6 ((.reg .l))
  | .set6AtHl => setBit 6 .atHl
  | .set6A => setBit 6 ((.reg .a))
  | .set7B => setBit 7 ((.reg .b))
  | .set7C => setBit 7 ((.reg .c))
  | .set7D => setBit 7 ((.reg .d))
  | .set7E => setBit 7 ((.reg .e))
  | .set7H => setBit 7 ((.reg .h))
  | .set7L => setBit 7 ((.reg .l))
  | .set7AtHl => setBit 7 .atHl
  | .set7A => setBit 7 ((.reg .a))

namespace Machine

/-! ### What `exec` does with a family -/

theorem exec_ldReg (r r' : Reg8) (s : State) :
    exec (.ldReg r r') s = ldReg r r' s := by
  cases r <;> cases r' <;> rfl
theorem exec_ldImm (r : Reg8) (n : Byte) (s : State) :
    exec (.ldImm r n) s = ldImm r n s := by
  cases r <;> rfl
theorem exec_ldFromHl (r : Reg8) (s : State) :
    exec (.ldFromHl r) s = ldFromHl r s := by
  cases r <;> rfl
theorem exec_ldToHl (r : Reg8) (s : State) :
    exec (.ldToHl r) s = ldToHl r s := by
  cases r <;> rfl
theorem exec_ldPair (rr : Reg16) (nn : Word) (s : State) :
    exec (.ldPair rr nn) s = ldPair rr nn s := by
  cases rr <;> rfl
theorem exec_push (qq : StackReg) (s : State) :
    exec (.push qq) s = push qq s := by
  cases qq <;> rfl
theorem exec_pop (qq : StackReg) (s : State) :
    exec (.pop qq) s = pop qq s := by
  cases qq <;> rfl
theorem exec_alu (op : AluOp) (x : Loc) (s : State) :
    exec (.alu op x) s = aluLoc op x s := by
  cases op <;> rcases x with (_ | _ | _ | _ | _ | _ | _) | _ <;> rfl
theorem exec_aluImm (op : AluOp) (n : Byte) (s : State) :
    exec (.aluImm op n) s = aluImm op n s := by
  cases op <;> rfl
theorem exec_incReg (r : Reg8) (s : State) :
    exec (.incReg r) s = incLoc (.reg r) s := by
  cases r <;> rfl
theorem exec_decReg (r : Reg8) (s : State) :
    exec (.decReg r) s = decLoc (.reg r) s := by
  cases r <;> rfl
theorem exec_addHl (rr : Reg16) (s : State) :
    exec (.addHl rr) s = addHl rr s := by
  cases rr <;> rfl
theorem exec_incPair (rr : Reg16) (s : State) :
    exec (.incPair rr) s = incPair rr s := by
  cases rr <;> rfl
theorem exec_decPair (rr : Reg16) (s : State) :
    exec (.decPair rr) s = decPair rr s := by
  cases rr <;> rfl
theorem exec_rot (op : RotOp) (x : Loc) (s : State) :
    exec (.rot op x) s = rotLoc op x s := by
  cases op <;> rcases x with (_ | _ | _ | _ | _ | _ | _) | _ <;> rfl
theorem exec_bit (b : Fin 8) (x : Loc) (s : State) :
    exec (.bit b x) s = bitLoc b x s := by
  fin_cases b <;> rcases x with (_ | _ | _ | _ | _ | _ | _) | _ <;> rfl
theorem exec_res (b : Fin 8) (x : Loc) (s : State) :
    exec (.res b x) s = resLoc b x s := by
  fin_cases b <;> rcases x with (_ | _ | _ | _ | _ | _ | _) | _ <;> rfl
theorem exec_setBit (b : Fin 8) (x : Loc) (s : State) :
    exec (.setBit b x) s = setLoc b x s := by
  fin_cases b <;> rcases x with (_ | _ | _ | _ | _ | _ | _) | _ <;> rfl
theorem exec_jpCc (cc : Cond) (nn : Word) (s : State) :
    exec (.jpCc cc nn) s = jpCc cc nn s := by
  cases cc <;> rfl
theorem exec_jrCc (cc : Cond) (e : Byte) (s : State) :
    exec (.jrCc cc e) s = jrCc cc e s := by
  cases cc <;> rfl
theorem exec_callCc (cc : Cond) (nn : Word) (s : State) :
    exec (.callCc cc nn) s = callCc cc nn s := by
  cases cc <;> rfl
theorem exec_retCc (cc : Cond) (s : State) :
    exec (.retCc cc) s = retCc cc s := by
  cases cc <;> rfl
theorem exec_rst (y : Fin 8) (s : State) :
    exec (.rst y) s = rst y s := by
  fin_cases y <;> rfl
theorem exec_invalid (x : BadByte) (s : State) :
    exec (.invalid x) s = invalidOpcode x.code s := by
  cases x <;> rfl

end Machine

end Sys2Proof
end

