-- ==== Sys2Proof/Laws/Memory.lean ====
section
/-! SUPPORT. The laws of the storage arrays: a read after a write, the canonical form, the bound on
the indexes. -/

namespace Sys2Proof.Machine

@[simp] theorem Memory.read_nil (k : Nat) : Memory.read [] k = 0x00#8 := rfl

/-- A canonical array whose indexes start at `lo` is canonical from any lower start. -/
theorem Memory.wfFrom_mono {m : Memory} {lo lo' : Nat} (h : lo ≤ lo') (hm : Memory.wfFrom lo' m) :
    Memory.wfFrom lo m := by
  cases m with
  | nil => rfl
  | cons c m =>
    simp only [Memory.wfFrom, Bool.and_eq_true, decide_eq_true_eq] at hm ⊢
    exact ⟨⟨Nat.le_trans h hm.1.1, hm.1.2⟩, hm.2⟩

/-- Below the first index every read gives the unlisted byte. -/
theorem Memory.read_below {m : Memory} {lo k : Nat} (hm : Memory.wfFrom lo m) (hk : k < lo) :
    m.read k = Memory.unlisted := by
  induction m generalizing lo with
  | nil => rfl
  | cons c m ih =>
    simp only [Memory.wfFrom, Bool.and_eq_true, decide_eq_true_eq] at hm
    simp only [Memory.read]
    rw [if_neg (by omega)]
    exact ih hm.2 (by omega)

/-- A write keeps the canonical form. -/
theorem Memory.wfFrom_write {m : Memory} {lo k : Nat} (v : Byte) (hm : Memory.wfFrom lo m)
    (hk : lo ≤ k) : Memory.wfFrom lo (m.write k v) := by
  induction m generalizing lo with
  | nil =>
    simp only [Memory.write]
    split <;> simp_all [Memory.wfFrom]
  | cons c m ih =>
    obtain ⟨i, w⟩ := c
    simp only [Memory.wfFrom, Bool.and_eq_true, decide_eq_true_eq] at hm
    simp only [Memory.write]
    split
    · split
      · simp_all [Memory.wfFrom]
      · simp_all [Memory.wfFrom]
    · split
      · split
        · exact Memory.wfFrom_mono (by omega) hm.2
        · simp_all [Memory.wfFrom]
      · simp only [Memory.wfFrom, Bool.and_eq_true, decide_eq_true_eq]
        exact ⟨hm.1, ih hm.2 (by omega)⟩

/-- A write keeps the canonical form. -/
theorem Memory.wf_write {m : Memory} (k : Nat) (v : Byte) (hm : m.wf) : (m.write k v).wf :=
  Memory.wfFrom_write v hm (Nat.zero_le k)

/-- A read of the index just written gives the byte written. -/
theorem Memory.read_write_same {m : Memory} (k : Nat) (v : Byte) (hm : m.wf) :
    (m.write k v).read k = v := by
  suffices h : ∀ lo, Memory.wfFrom lo m → (m.write k v).read k = v from h 0 hm
  clear hm
  induction m with
  | nil =>
    intro lo _
    simp only [Memory.write]
    split <;> simp_all [Memory.read, Memory.unlisted]
  | cons c m ih =>
    intro lo hm
    obtain ⟨i, w⟩ := c
    simp only [Memory.wfFrom, Bool.and_eq_true, decide_eq_true_eq] at hm
    simp only [Memory.write]
    split
    · next hlt =>
      split
      · next hv =>
        simp only [Memory.read]
        rw [if_neg (by omega), hv]
        exact Memory.read_below hm.2 (by omega)
      · simp [Memory.read]
    · split
      · next heq =>
        split
        · next hv => rw [hv]; exact Memory.read_below hm.2 (by omega)
        · simp [Memory.read]
      · next hne =>
        simp only [Memory.read]
        rw [if_neg (by omega)]
        exact ih _ hm.2

/-- A write leaves every other index alone. -/
theorem Memory.read_write_other {m : Memory} (k j : Nat) (v : Byte) (hj : j ≠ k) :
    (m.write k v).read j = m.read j := by
  induction m with
  | nil =>
    simp only [Memory.write]
    split
    · rfl
    · simp [Memory.read, Ne.symm hj]
  | cons c m ih =>
    obtain ⟨i, w⟩ := c
    simp only [Memory.write]
    split
    · split
      · rfl
      · simp only [Memory.read]; rw [if_neg (Ne.symm hj)]
    · split
      · next heq =>
        subst heq
        split
        · simp only [Memory.read]; rw [if_neg (Ne.symm hj)]
        · simp only [Memory.read]; rw [if_neg (Ne.symm hj), if_neg (Ne.symm hj)]
      · simp only [Memory.read, ih]

/-- A read after a write, as one equation. -/
theorem Memory.read_write {m : Memory} (k j : Nat) (v : Byte) (hm : m.wf) :
    (m.write k v).read j = if j = k then v else m.read j := by
  split
  · next h => rw [h]; exact Memory.read_write_same k v hm
  · next h => exact Memory.read_write_other k j v h

/-- A write below the bound keeps the bound. -/
theorem Memory.below_write {m : Memory} {n k : Nat} (v : Byte) (hm : m.below n) (hk : k < n) :
    (m.write k v).below n := by
  induction m with
  | nil =>
    simp only [Memory.write]
    split <;> simp_all [Memory.below]
  | cons c m ih =>
    obtain ⟨i, w⟩ := c
    simp only [Memory.below, List.all_cons, Bool.and_eq_true] at hm ih
    have hkn : decide (k < n) = true := by simpa using hk
    simp only [Memory.write]
    split
    · split
      · simp only [Memory.below, List.all_cons, Bool.and_eq_true]; exact hm
      · simp only [Memory.below, List.all_cons, Bool.and_eq_true]; exact ⟨hkn, hm⟩
    · split
      · split
        · exact hm.2
        · simp only [Memory.below, List.all_cons, Bool.and_eq_true]; exact ⟨hkn, hm.2⟩
      · simp only [Memory.below, List.all_cons, Bool.and_eq_true]
        exact ⟨hm.1, ih hm.2⟩

/-- A write of a byte with a property keeps it of all entries. -/
theorem Memory.all_write {m : Memory} (p : Byte → Bool) (k : Nat) (v : Byte)
    (hm : m.all fun c => p c.2) (hv : p v) : (m.write k v).all fun c => p c.2 := by
  induction m with
  | nil =>
    simp only [Memory.write]
    split <;> simp_all
  | cons c m ih =>
    obtain ⟨i, w⟩ := c
    simp only [List.all_cons, Bool.and_eq_true] at hm
    simp only [Memory.write]
    split
    · split
      · simp only [List.all_cons, Bool.and_eq_true]; exact hm
      · simp only [List.all_cons, Bool.and_eq_true]; exact ⟨hv, hm⟩
    · split
      · split
        · exact hm.2
        · simp only [List.all_cons, Bool.and_eq_true]; exact ⟨hv, hm.2⟩
      · simp only [List.all_cons, Bool.and_eq_true]
        exact ⟨hm.1, ih hm.2⟩

/-- `Memory.ofCells` is canonical. -/
theorem Memory.wf_ofCells (cs : List Host.Cell) : (Memory.ofCells cs).wf := by
  induction cs with
  | nil => rfl
  | cons c cs ih => exact Memory.wf_write _ _ ih

/-- `Memory.ofCells` keeps a bound on the indexes. -/
theorem Memory.below_ofCells {cs : List Host.Cell} {n : Nat} (h : ∀ c ∈ cs, c.1 < n) :
    (Memory.ofCells cs).below n := by
  induction cs with
  | nil => rfl
  | cons c cs ih =>
    exact Memory.below_write _ (ih fun d hd => h d (List.mem_cons_of_mem _ hd))
      (h c (List.mem_cons_self ..))

/-- `Memory.ofBytes` is canonical. -/
theorem Memory.wf_ofBytes (k : Nat) (bs : List Byte) : (Memory.ofBytes k bs).wf := by
  induction bs generalizing k with
  | nil => rfl
  | cons v bs ih => exact Memory.wf_write _ _ (ih _)

/-- Two canonical arrays that read alike are one array: equal memories are equal data. -/
theorem Memory.ext_of_wf {m m' : Memory} (hm : m.wf) (hm' : m'.wf)
    (h : ∀ k, m.read k = m'.read k) : m = m' := by
  suffices H : ∀ (m m' : Memory) lo, Memory.wfFrom lo m → Memory.wfFrom lo m' →
      (∀ k, m.read k = m'.read k) → m = m' from H m m' 0 hm hm' h
  clear hm hm' h m m'
  intro m
  induction m with
  | nil =>
    intro m' lo _ hm' h
    cases m' with
    | nil => rfl
    | cons c m' =>
      obtain ⟨i, w⟩ := c
      simp only [Memory.wfFrom, Bool.and_eq_true] at hm'
      have := h i
      simp [Memory.read, Memory.unlisted] at this hm'
      exact absurd this.symm hm'.1.2
  | cons c m ih =>
    intro m' lo hm hm' h
    obtain ⟨i, w⟩ := c
    simp only [Memory.wfFrom, Bool.and_eq_true, decide_eq_true_eq, bne_iff_ne, ne_eq] at hm
    cases m' with
    | nil =>
      have := h i
      simp [Memory.read, Memory.unlisted] at this hm
      exact absurd this hm.1.2
    | cons c' m' =>
      obtain ⟨j, x⟩ := c'
      simp only [Memory.wfFrom, Bool.and_eq_true, decide_eq_true_eq, bne_iff_ne, ne_eq] at hm'
      have hij : i = j := by
        rcases Nat.lt_trichotomy i j with hlt | heq | hgt
        · have := h i
          simp only [Memory.read] at this
          rw [if_pos trivial, if_neg (by omega), Memory.read_below hm'.2 (by omega)] at this
          exact absurd this hm.1.2
        · exact heq
        · have := h j
          simp only [Memory.read] at this
          rw [if_neg (by omega), if_pos trivial, Memory.read_below hm.2 (by omega)] at this
          exact absurd this.symm hm'.1.2
      subst hij
      have hw : w = x := by have := h i; simpa [Memory.read] using this
      subst hw
      congr 1
      apply ih m' (i + 1) hm.2 hm'.2
      intro k
      have := h k
      simp only [Memory.read] at this
      by_cases hk : i = k
      · rw [Memory.read_below hm.2 (by omega), Memory.read_below hm'.2 (by omega)]
      · rwa [if_neg hk, if_neg hk] at this

/-- Reading through a change of every byte that keeps the unlisted one. -/
theorem Memory.read_map (f : Byte → Byte) (hf : f 0#8 = 0#8) (m : Memory) (k : Nat) :
    Memory.read (m.map fun c => (c.1, f c.2)) k = f (m.read k) := by
  induction m with
  | nil => exact hf.symm
  | cons c m ih => obtain ⟨i, v⟩ := c; simp only [List.map_cons, Memory.read]; split <;> simp_all

/-- The canonical array reads as the list it is made of. -/
theorem Memory.read_ofCells (cs : List Host.Cell) (k : Nat) :
    (Memory.ofCells cs).read k = Memory.read cs k := by
  induction cs with
  | nil => rfl
  | cons c cs ih =>
    obtain ⟨i, v⟩ := c
    simp only [Memory.ofCells, Memory.read]
    rw [Memory.read_write _ _ _ (Memory.wf_ofCells cs), ih]
    by_cases h : k = i <;> simp [h, eq_comm]

/-- Entries at or beyond `n` left out. -/
theorem Memory.read_filter (n : Nat) (cs : List Host.Cell) (k : Nat) :
    Memory.read (cs.filter fun c => c.1 < n) k = if k < n then Memory.read cs k else 0#8 := by
  induction cs with
  | nil => simp
  | cons c cs ih =>
    obtain ⟨i, v⟩ := c
    rw [List.filter_cons]
    by_cases h : i < n
    · simp only [h, decide_true, if_true, Memory.read, ih]
      by_cases h2 : i = k
      · subst h2; simp [h]
      · simp [h2]
    · simp only [h, decide_false, Bool.false_eq_true, if_false, Memory.read, ih]
      split
      · rw [if_neg (by omega)]
      · rfl

/-- Nothing is listed at or beyond the size. -/
theorem Memory.read_beyond {m : Memory} {n k : Nat} (h : m.below n) (hk : n ≤ k) : m.read k = 0#8 := by
  induction m with
  | nil => rfl
  | cons c m ih =>
    obtain ⟨i, v⟩ := c
    simp only [Memory.below, List.all_cons, Bool.and_eq_true, decide_eq_true_eq] at h
    simp only [Memory.read]
    rw [if_neg (by omega)]; exact ih h.2

/-- An array made of bytes from index `k` on. -/
theorem Memory.read_ofBytes (bs : List Byte) (k j : Nat) :
    (Memory.ofBytes k bs).read j = if j < k then 0#8 else (bs[j - k]?).getD 0#8 := by
  induction bs generalizing k with
  | nil => simp [Memory.ofBytes]
  | cons b bs ih =>
    simp only [Memory.ofBytes]
    rw [Memory.read_write _ _ _ (Memory.wf_ofBytes _ _), ih]
    by_cases h : j = k
    · simp [h]
    · rw [if_neg h]
      by_cases h2 : j < k
      · simp [h2]; omega
      · rw [if_neg (by omega), if_neg h2, show j - k = (j - (k + 1)) + 1 by omega]; simp

end Sys2Proof.Machine
end

