-- ==== Sys2Proof/Laws/Ops.lean ====
section
/-! SUPPORT. For each shared operation, once, everything it can do. -/

namespace Sys2Proof.Machine

/-! ### Sequencing -/

section eff
variable {α β : Type} (v : α) (k : Fatal) (s : State)

@[simp] theorem Eff.bind_done (f : α → State → Eff β) : (Eff.done v s).bind f = f v s := rfl
@[simp] theorem Eff.bind_raise (f : α → State → Eff β) :
    (Eff.raise k s : Eff α).bind f = .raise k s := rfl
@[simp] theorem Eff.andThen_done (f : α → State → State) :
    (Eff.done v s).andThen f = .next (f v s) := rfl
@[simp] theorem Eff.andThen_raise (f : α → State → State) :
    (Eff.raise k s : Eff α).andThen f = .next (s.raised k) := rfl

/-- The state an operation leaves, completed or not. -/
def Eff.state (x : Eff α) : State :=
  match x with
  | .done _ t => t
  | .raise _ t => t

@[simp] theorem Eff.state_done : (Eff.done v s).state = s := rfl
@[simp] theorem Eff.state_raise : (Eff.raise k s : Eff α).state = s := rfl

/-- An operation followed by the end of the rule always answers a next state. -/
theorem Eff.andThen_next (x : Eff α) (f : α → State → State) : ∃ t, x.andThen f = .next t := by
  cases x <;> exact ⟨_, rfl⟩

end eff

/-! ### Routing -/

/-- What routes an address: the overlay, the revision, the map, the slots. -/
structure SameWiring (s t : State) : Prop where
  map : t.map = s.map
  slots : t.slots = s.slots
  params : t.params = s.params
  bootOverlay : t.bootOverlay = s.bootOverlay

theorem SameWiring.rfl' (s : State) : SameWiring s s := ⟨rfl, rfl, rfl, rfl⟩

theorem route_congr {s t : State} (h : SameWiring s t) (a : Word) : t.route a = s.route a := by
  unfold State.route State.getId
  rw [h.map, h.slots, h.params, h.bootOverlay]

theorem readable_congr {s t : State} (h : SameWiring s t) (a : Word) :
    t.readable a = s.readable a := by
  unfold State.readable; rw [route_congr h]

theorem readableFrom_congr {s t : State} (h : SameWiring s t) (src : Word) (n i : Nat) :
    t.readableFrom src n i = s.readableFrom src n i := by
  induction n generalizing i with
  | zero => rfl
  | succ n ih => simp only [State.readableFrom, readable_congr h, ih]

/-! ### Reads -/

/-- A read changes no state but the count of the oracle's answers, completed or not
(20_memory R68, R76). -/
theorem busRead_cases (a : Word) (s : State) :
    (∃ v n, busRead a s = .done v { s with extReads := n }) ∨ ∃ k, busRead a s = .raise k s := by
  unfold busRead
  split
  · next d _ =>
    cases d <;> simp only [deviceGet8, extGet8]
    case cartridge => split <;> [exact .inl ⟨_, _, rfl⟩; exact .inr ⟨_, rfl⟩]
    case ramBanks => split <;> [exact .inl ⟨_, _, rfl⟩; exact .inr ⟨_, rfl⟩]
    case interruptController => split <;> [exact .inl ⟨_, _, rfl⟩; exact .inr ⟨_, rfl⟩]
    case bootRom => exact .inl ⟨_, s.extReads, rfl⟩
    all_goals exact .inl ⟨_, _, rfl⟩
  · exact .inr ⟨_, rfl⟩

theorem busRead_state (a : Word) (s : State) :
    (busRead a s).state = { s with extReads := (busRead a s).state.extReads } := by
  obtain ⟨v, n, h⟩ | ⟨k, h⟩ := busRead_cases a s <;> rw [h] <;> rfl

/-- A device that owns the address answers. -/
theorem deviceGet8_owned {d : DeviceId} {a : Word} (s : State) (h : deviceOwns d a) :
    ∃ v n, deviceGet8 d a s = .done v { s with extReads := n } := by
  cases d <;> simp only [deviceGet8, extGet8, deviceOwns] at h ⊢
  case cartridge =>
    simp only [Cart.get8]
    by_cases h1 : inRomArea a
    · simp only [h1, if_true]; exact ⟨_, s.extReads, rfl⟩
    · have h2 : inRamWindow a = true := by simpa [h1] using h
      simp only [h1, h2, if_true, Bool.false_eq_true, if_false]; exact ⟨_, s.extReads, rfl⟩
  case ramBanks =>
    simp only [ramBanksGet8]
    cases hw : wramIndex a with
    | some i => exact ⟨_, s.extReads, rfl⟩
    | none =>
      cases hh : hramIndex a with
      | some i => exact ⟨_, s.extReads, rfl⟩
      | none => simp [hw, hh] at h
  case interruptController =>
    simp only [interruptGet8]
    by_cases h1 : a = 0xFFFF#16
    · simp only [h1, if_true]; exact ⟨_, s.extReads, rfl⟩
    · have h2 : a = 0xFF0F#16 := by simpa [h1] using h
      simp only [h2]; exact ⟨_, s.extReads, rfl⟩
  case null => exact ⟨_, s.extReads, rfl⟩
  case bootRom => exact ⟨_, s.extReads, rfl⟩
  all_goals exact ⟨_, _, rfl⟩

/-- A readable address answers a byte. -/
theorem busRead_readable {s : State} {a : Word} (h : s.readable a) :
    ∃ v n, busRead a s = .done v { s with extReads := n } := by
  unfold State.readable at h
  unfold busRead
  revert h
  cases s.route a with
  | ok d => exact fun h => deviceGet8_owned s h
  | error k => exact fun h => Bool.noConfusion h

/-- A byte the core holds is read without a side effect (20_memory R68). -/
theorem busRead_of_peek {s : State} {a : Word} {v : Byte} (h : s.peek a = some v) :
    busRead a s = .done v s := by
  unfold State.peek at h
  unfold busRead
  cases hr : s.route a with
  | error k => simp [hr] at h
  | ok d =>
    cases d <;> simp only [hr] at h <;> simp only [deviceGet8, reduceCtorEq] at h ⊢
    case null => cases h; rfl
    case bootRom => cases h; rfl
    all_goals rw [h]

/-- What a read that completes says of the wiring: nothing changed. -/
theorem busRead_wiring {s u : State} {a : Word} {v : Byte} (h : busRead a s = .done v u) :
    SameWiring s u := by
  obtain ⟨w, n, hc⟩ | ⟨k, hc⟩ := busRead_cases a s
  · rw [hc] at h; cases h; exact ⟨rfl, rfl, rfl, rfl⟩
  · rw [hc] at h; cases h

/-- Two reads, the high byte first (20_memory R62). -/
theorem busRead16_cases (a : Word) (s : State) :
    (∃ v n, busRead16 a s = .done v { s with extReads := n }) ∨
      ∃ k n, busRead16 a s = .raise k { s with extReads := n } := by
  unfold busRead16
  obtain ⟨v, n, h⟩ | ⟨k, h⟩ := busRead_cases (a + 1#16) s
  · rw [h]
    obtain ⟨v', n', h'⟩ | ⟨k, h'⟩ := busRead_cases a { s with extReads := n }
    · simp only [Eff.bind_done, h']; exact .inl ⟨_, _, rfl⟩
    · simp only [Eff.bind_done, h', Eff.bind_raise]; exact .inr ⟨_, n, rfl⟩
  · rw [h]; exact .inr ⟨k, s.extReads, rfl⟩

theorem busRead16_readable {s : State} {a : Word} (h0 : s.readable a)
    (h1 : s.readable (a + 1#16)) :
    ∃ v n, busRead16 a s = .done v { s with extReads := n } := by
  unfold busRead16
  obtain ⟨v, n, h⟩ := busRead_readable h1
  have h0' : ({ s with extReads := n } : State).readable a :=
    (readable_congr (s := s) ⟨rfl, rfl, rfl, rfl⟩ a).trans h0
  obtain ⟨v', n', h'⟩ := busRead_readable h0'
  rw [h]; simp only [Eff.bind_done, h']; exact ⟨_, _, rfl⟩

/-- A pop moves `SP` and counts answers; on a fatal read `SP` stays (41_load16 R210). -/
theorem pop16_cases (s : State) :
    (∃ v n, pop16 s = .done v ({ s with extReads := n }.setSp (s.regs.sp + 2#16))) ∨
      ∃ k n, pop16 s = .raise k { s with extReads := n } := by
  unfold pop16
  obtain ⟨v, n, h⟩ | ⟨k, n, h⟩ := busRead16_cases s.regs.sp s
  · rw [h]; exact .inl ⟨_, _, rfl⟩
  · rw [h]; exact .inr ⟨_, _, rfl⟩

/-! ### Writes -/

/-- What no bus access changes, completed or not. -/
structure SameCore (s t : State) : Prop where
  regs : t.regs = s.regs
  ime : t.ime = s.ime
  imeSched : t.imeSched = s.imeSched
  halted : t.halted = s.halted
  stopped : t.stopped = s.stopped
  fatal : t.fatal = s.fatal
  rom : t.cart.rom = s.cart.rom
  romBanks : t.cart.romBanks = s.cart.romBanks
  ramLen : t.cart.ramLen = s.cart.ramLen
  variant : t.cart.mbc.variant = s.cart.mbc.variant
  bootRom : t.bootRom = s.bootRom
  overlayOff : t.bootOverlay = true → s.bootOverlay = true
  map : t.map = s.map
  slots : t.slots = s.slots
  params : t.params = s.params
  inputs : t.inputs = s.inputs
  lastCycles : t.lastCycles = s.lastCycles
  haltBugArmed : t.haltBugArmed = s.haltBugArmed

theorem SameCore.rfl' (s : State) : SameCore s s := by constructor <;> simp

theorem SameCore.trans {s t u : State} (h : SameCore s t) (h' : SameCore t u) : SameCore s u where
  regs := h'.regs.trans h.regs
  ime := h'.ime.trans h.ime
  imeSched := h'.imeSched.trans h.imeSched
  halted := h'.halted.trans h.halted
  stopped := h'.stopped.trans h.stopped
  fatal := h'.fatal.trans h.fatal
  rom := h'.rom.trans h.rom
  romBanks := h'.romBanks.trans h.romBanks
  ramLen := h'.ramLen.trans h.ramLen
  variant := h'.variant.trans h.variant
  bootRom := h'.bootRom.trans h.bootRom
  overlayOff := fun x => h.overlayOff (h'.overlayOff x)
  map := h'.map.trans h.map
  slots := h'.slots.trans h.slots
  params := h'.params.trans h.params
  inputs := h'.inputs.trans h.inputs
  lastCycles := h'.lastCycles.trans h.lastCycles
  haltBugArmed := h'.haltBugArmed.trans h.haltBugArmed

theorem SameCore.of_extReads (s : State) (n : Nat) : SameCore s { s with extReads := n } := by
  constructor <;> simp

theorem SameCore.of_logExt (s : State) (e : ExtEvent) : SameCore s (s.logExt e) := by
  constructor <;> simp

@[simp] theorem Mbc.control_variant (m : Mbc) (a : Word) (v : Byte) :
    (m.control a v).variant = m.variant := by
  cases m <;> simp only [Mbc.control] <;> repeat' (first | rfl | split)

/-- A copy counts answers and logs what it hands over; nothing else (20_memory R100, R101, R105). -/
theorem dmaCopy_state (src : Word) (ev : Nat → Byte → ExtEvent) (n i : Nat) (s : State) :
    ∃ m l, (dmaCopy src ev n i s).state = { s with extReads := m, extLog := l } := by
  induction n generalizing i s with
  | zero => exact ⟨_, _, rfl⟩
  | succ n ih =>
    unfold dmaCopy
    obtain ⟨v, m, h⟩ | ⟨k, h⟩ := busRead_cases (src + BitVec.ofNat 16 i) s
    · rw [h, Eff.bind_done]
      obtain ⟨m', l', h'⟩ := ih (i + 1) (State.logExt { s with extReads := m } (ev i v))
      exact ⟨m', l', by rw [h']; rfl⟩
    · rw [h]; exact ⟨_, _, rfl⟩

/-- A copy over readable addresses completes. -/
theorem dmaCopy_readable {src : Word} (ev : Nat → Byte → ExtEvent) {n i : Nat} {s : State}
    (h : s.readableFrom src n i) : ∃ t, dmaCopy src ev n i s = .done () t := by
  induction n generalizing i s with
  | zero => exact ⟨_, rfl⟩
  | succ n ih =>
    simp only [State.readableFrom, Bool.and_eq_true] at h
    unfold dmaCopy
    obtain ⟨v, m, hr⟩ := busRead_readable h.1
    rw [hr, Eff.bind_done]
    apply ih
    have hw : SameWiring s (State.logExt { s with extReads := m } (ev i v)) := ⟨rfl, rfl, rfl, rfl⟩
    exact (readableFrom_congr hw src n (i + 1)).trans h.2

theorem syncBlockTransfer_state (len : Nat) (s : State) :
    ∃ m l, (syncBlockTransfer len s).state = { s with extReads := m, extLog := l } := by
  unfold syncBlockTransfer
  obtain ⟨m, l, h⟩ := dmaCopy_state (Config.extBlockSource s.extReads) .blockWrite len 0
    { s with extReads := s.extReads + 1 }
  cases hc : dmaCopy (Config.extBlockSource s.extReads) .blockWrite len 0
      { s with extReads := s.extReads + 1 } with
  | done v t => rw [hc] at h; exact ⟨m, .blockAdvance len :: l, by simp_all [State.logExt]⟩
  | raise k t => rw [hc] at h; exact ⟨m, l, by simp_all⟩

/-- A write of a device changes the device's own storage and nothing of the rest. -/
theorem deviceSet8_sameCore (d : DeviceId) (a : Word) (v : Byte) (s : State) :
    SameCore s (deviceSet8 d a v s).state := by
  cases d <;> simp only [deviceSet8]
  case cartridge =>
    split
    · next c hc =>
      unfold Cart.set8 at hc
      split at hc
      · cases hc; constructor <;> simp
      · split at hc
        · cases hc
          unfold Cart.ramWrite
          repeat' (first | (constructor <;> simp; done) | split)
        · cases hc
    · exact SameCore.rfl' s
  case ramBanks =>
    unfold ramBanksSet8
    split
    · next h => split at h <;> [skip; split at h] <;> cases h <;> constructor <;> simp
    · exact SameCore.rfl' s
  case interruptController =>
    unfold interruptSet8
    split
    · next h => split at h <;> [skip; split at h] <;> cases h <;> constructor <;> simp
    · exact SameCore.rfl' s
  all_goals first | exact SameCore.rfl' s | exact SameCore.of_logExt s _

/-- A bus write changes storage behind the bus, the overlay latch, the log, and nothing else
(20_memory R61, R68). -/
theorem busWrite_sameCore (a : Word) (v : Byte) (s : State) :
    SameCore s (busWrite a v s).state := by
  unfold busWrite
  split
  · obtain ⟨m, l, h⟩ := dmaCopy_state (join v 0x00#8) .spriteTable 160 0 s
    unfold spriteDma; rw [h]; constructor <;> simp
  · unfold vramBlockTransfer
    split
    · exact SameCore.of_logExt s _
    · obtain ⟨m, l, h⟩ := syncBlockTransfer_state (blockLength v) s
      rw [h]; constructor <;> simp
  · simp only [bootDisable, Eff.state_done]
    split <;> constructor <;> simp
  · split
    · exact deviceSet8_sameCore _ a v s
    · exact SameCore.rfl' s

/-- A device that owns the address takes the byte. -/
theorem deviceSet8_owned {d : DeviceId} {a : Word} (v : Byte) (s : State) (h : deviceOwns d a) :
    ∃ t, deviceSet8 d a v s = .done () t := by
  cases d <;> simp only [deviceSet8, deviceOwns] at h ⊢
  case cartridge =>
    simp only [Cart.set8]
    by_cases h1 : inRomArea a
    · simp only [h1, if_true]; exact ⟨_, rfl⟩
    · have h2 : inRamWindow a = true := by simpa [h1] using h
      simp only [h1, h2, if_true, Bool.false_eq_true, if_false]; exact ⟨_, rfl⟩
  case ramBanks =>
    simp only [ramBanksSet8]
    cases hw : wramIndex a with
    | some i => exact ⟨_, rfl⟩
    | none =>
      cases hh : hramIndex a with
      | some i => exact ⟨_, rfl⟩
      | none => simp [hw, hh] at h
  case interruptController =>
    simp only [interruptSet8]
    by_cases h1 : a = 0xFFFF#16
    · simp only [h1, if_true]; exact ⟨_, rfl⟩
    · have h2 : a = 0xFF0F#16 := by simpa [h1] using h
      simp only [h2]; exact ⟨_, rfl⟩
  all_goals exact ⟨_, rfl⟩

/-- A writable address takes the byte. -/
theorem busWrite_writable {s : State} {a : Word} {v : Byte} (h : s.writable a v) :
    ∃ t, busWrite a v s = .done () t := by
  unfold State.writable at h
  unfold busWrite
  split <;> rename_i hi <;> simp only [hi] at h
  · exact dmaCopy_readable .spriteTable h
  · unfold vramBlockTransfer
    split
    · exact ⟨_, rfl⟩
    · next hb =>
      have hb' : v.getLsbD 7 = false := by simpa using hb
      rw [hb', Bool.false_or] at h
      unfold syncBlockTransfer
      have hw : SameWiring s { s with extReads := s.extReads + 1 } := ⟨rfl, rfl, rfl, rfl⟩
      obtain ⟨t, ht⟩ := dmaCopy_readable .blockWrite ((readableFrom_congr hw _ _ _).trans h)
      rw [ht]; exact ⟨_, rfl⟩
  · exact ⟨_, rfl⟩
  · unfold State.readable at h
    revert h
    cases s.route a with
    | ok d => exact fun h => deviceSet8_owned v s h
    | error k => exact fun h => Bool.noConfusion h

/-- Two writes, the high byte first (20_memory R63). -/
theorem busWrite16_sameCore (a v : Word) (s : State) : SameCore s (busWrite16 a v s).state := by
  unfold busWrite16
  have h := busWrite_sameCore (a + 1#16) (hiByte v) s
  cases hc : busWrite (a + 1#16) (hiByte v) s with
  | done w t => rw [hc] at h; exact h.trans (busWrite_sameCore a (loByte v) t)
  | raise k t => rw [hc] at h; exact h

/-! ### The stack -/

/-- `SameCore` but for `SP`. -/
def SameButSp (s t : State) : Prop := SameCore (s.setSp t.regs.sp) t

/-- A push writes two bytes and moves `SP` down by two; a fatal first write leaves `SP` one lower
(41_load16 R210). -/
theorem push16_sameButSp (v : Word) (s : State) : SameButSp s (push16 v s).state := by
  unfold push16 SameButSp
  simp only
  have h := busWrite_sameCore (s.setSp (s.regs.sp - 1#16)).regs.sp (hiByte v)
    (s.setSp (s.regs.sp - 1#16))
  cases hc : busWrite (s.setSp (s.regs.sp - 1#16)).regs.sp (hiByte v)
      (s.setSp (s.regs.sp - 1#16)) with
  | raise k t =>
    rw [hc] at h
    have hr : t.regs.sp = s.regs.sp - 1#16 := by have := h.regs; simp_all
    simp only [Eff.bind_raise, Eff.state_raise]
    rw [hr]; exact h
  | done w t =>
    rw [hc] at h
    simp only [Eff.bind_done]
    have h2 := busWrite_sameCore (t.setSp (t.regs.sp - 1#16)).regs.sp (loByte v)
      (t.setSp (t.regs.sp - 1#16))
    generalize (busWrite (t.setSp (t.regs.sp - 1#16)).regs.sp (loByte v)
      (t.setSp (t.regs.sp - 1#16))).state = u at h2
    have hs : u.regs.sp = t.regs.sp - 1#16 := by have := h2.regs; simp_all
    rw [hs]
    have hreg : t.regs = { s.regs with sp := s.regs.sp - 1#16 } := h.regs
    constructor
    · rw [h2.regs]; simp [hreg]
    all_goals first
      | exact h2.ime.trans h.ime
      | exact h2.imeSched.trans h.imeSched
      | exact h2.halted.trans h.halted
      | exact h2.stopped.trans h.stopped
      | exact h2.fatal.trans h.fatal
      | exact h2.rom.trans h.rom
      | exact h2.romBanks.trans h.romBanks
      | exact h2.ramLen.trans h.ramLen
      | exact h2.variant.trans h.variant
      | exact h2.bootRom.trans h.bootRom
      | exact fun x => h.overlayOff (h2.overlayOff x)
      | exact h2.map.trans h.map
      | exact h2.slots.trans h.slots
      | exact h2.params.trans h.params
      | exact h2.inputs.trans h.inputs
      | exact h2.lastCycles.trans h.lastCycles
      | exact h2.haltBugArmed.trans h.haltBugArmed

/-! ### Operands -/

/-- Reading an operand counts the oracle's answers at most. -/
theorem readLoc_cases (x : Loc) (s : State) :
    (∃ v n, readLoc x s = .done v { s with extReads := n }) ∨ ∃ k, readLoc x s = .raise k s := by
  cases x with
  | reg r => exact .inl ⟨s.getReg r, s.extReads, rfl⟩
  | atHl => exact busRead_cases s.hl s

/-! ### Interrupts -/

/-- What is pending is enabled and requested (60_exceptions R342). -/
theorem pending_set {s : State} {p : Source} (h : s.pending = some p) :
    s.intEnable.getLsbD p.bit = true ∧ s.intRequest.getLsbD p.bit = true := by
  unfold State.pending at h
  simp only [State.pendingMask, BitVec.getLsbD_and, Bool.and_eq_true] at h
  split at h
  · cases h; simp_all [Source.bit]
  · split at h
    · cases h; simp_all [Source.bit]
    · split at h
      · cases h; simp_all [Source.bit]
      · split at h
        · cases h; simp_all [Source.bit]
        · cases h

end Sys2Proof.Machine
end

