-- ==== Sys2Proof/Laws/Exec.lean ====
section
/-! SUPPORT. What the shared pieces of the meanings do: the accesses that complete, the stack, the ends of
rules, the fetch. The proofs about instructions cite these. -/

namespace Sys2Proof.Machine

/-! ### Accesses that complete -/

theorem busRead_done {a : Word} {s u : State} {v : Byte} (h : busRead a s = .done v u) :
    ∃ n, u = { s with extReads := n } := by
  obtain ⟨w, n, hc⟩ | ⟨k, hc⟩ := busRead_cases a s
  · rw [hc] at h; cases h; exact ⟨n, rfl⟩
  · rw [hc] at h; cases h

theorem busWrite_done {a : Word} {s u : State} {v : Byte} (h : busWrite a v s = .done () u) :
    SameCore s u := by
  have := busWrite_sameCore a v s
  rwa [h] at this

/-- A fatal bus write leaves the request mask and the registers. -/
theorem busWrite_raise {a : Word} {v : Byte} {s w : State} {k : Fatal}
    (h : busWrite a v s = .raise k w) : w.intRequest = s.intRequest ∧ w.regs = s.regs := by
  refine ⟨?_, ?_⟩
  · unfold busWrite at h
    split at h
    · obtain ⟨m, l, e⟩ := dmaCopy_state (join v 0x00#8) .spriteTable 160 0 s
      unfold spriteDma at h
      rw [h] at e
      simp only [Eff.state] at e
      rw [e]
    · unfold vramBlockTransfer at h
      split at h
      · cases h
      · obtain ⟨m, l, e⟩ := syncBlockTransfer_state (blockLength v) s
        rw [h] at e
        simp only [Eff.state] at e
        rw [e]
    · cases h
    · split at h
      · next d _ =>
        cases d <;> simp only [deviceSet8] at h
        all_goals first | (split at h <;> cases h <;> rfl) | cases h
      · cases h; rfl
  · have := busWrite_sameCore a v s
    rw [h] at this
    exact this.regs

theorem readLoc_done {x : Loc} {s u : State} {v : Byte} (h : readLoc x s = .done v u) :
    ∃ n, u = { s with extReads := n } := by
  obtain ⟨w, n, hc⟩ | ⟨k, hc⟩ := readLoc_cases x s
  · rw [hc] at h; cases h; exact ⟨n, rfl⟩
  · rw [hc] at h; cases h

/-- A store to an operand leaves `pc`, `F` and the latch of the `HALT` bug. -/
theorem writeLoc_done {x : Loc} {s w : State} {v : Byte} (h : writeLoc x v s = .done () w) :
    w.regs.pc = s.regs.pc ∧ w.regs.f = s.regs.f ∧ w.haltBugArmed = s.haltBugArmed := by
  cases x with
  | reg r => simp only [writeLoc] at h; cases h; simp
  | atHl => have := busWrite_done h; simp [this.regs, this.haltBugArmed]

/-- The read-modify-write of the byte at `x[HL]` is a read and a write (20_memory R67). -/
theorem modifyLoc_atHl_sameCore (f : Byte → Byte) (s : State) :
    SameCore s (modifyLoc .atHl f s).state := by
  unfold modifyLoc
  simp only [readLoc]
  obtain ⟨v, n, hx⟩ | ⟨k, hx⟩ := busRead_cases s.hl s
  · rw [hx]
    simp only [Eff.bind_done, writeLoc]
    have h2 := busWrite_sameCore (State.hl { s with extReads := n }) (f v) { s with extReads := n }
    cases hy : busWrite (State.hl { s with extReads := n }) (f v) { s with extReads := n } with
    | raise k w => rw [hy] at h2; exact (SameCore.of_extReads s n).trans h2
    | done v w => rw [hy] at h2; exact (SameCore.of_extReads s n).trans h2
  · rw [hx]; exact SameCore.rfl' s

/-- An operation with the end of a rule: it completed, or it raised. -/
theorem Eff.andThen_cases {α : Type} {x : Eff α} {f : α → State → State} {t : State}
    (h : x.andThen f = .next t) :
    (∃ v u, x = .done v u ∧ t = f v u) ∨ ∃ k u, x = .raise k u ∧ t = u.raised k := by
  cases x with
  | done v u => cases h; exact .inl ⟨v, u, rfl, rfl⟩
  | raise k u => cases h; exact .inr ⟨k, u, rfl, rfl⟩

/-! ### The stack -/

/-- A fatal push leaves `SP` one lower, or two where its second write is the fatal one
(41_load16 R210). -/
theorem push16_raise_sp {v : Word} {s w : State} {k : Fatal} (h : push16 v s = .raise k w) :
    w.regs.sp = s.regs.sp - 1#16 ∨ w.regs.sp = s.regs.sp - 2#16 := by
  unfold push16 at h
  simp only [State.setSp_regs] at h
  cases h1 : busWrite (s.regs.sp - 1#16) (hiByte v) (s.setSp (s.regs.sp - 1#16)) with
  | raise k t => rw [h1] at h; cases h; left; rw [(busWrite_raise h1).2]; rfl
  | done x u =>
    rw [h1, Eff.bind_done] at h
    right; rw [(busWrite_raise h).2]; simp [(busWrite_done h1).regs]; bv_omega

theorem pushes_push16 {v : Word} {s w : State} (h : Pushes v s w) : push16 v s = .done () w := by
  obtain ⟨u, h1, h2⟩ := h
  have hr : u.regs.sp = s.regs.sp - 1#16 := by rw [(busWrite_done h1).regs]; rfl
  have h3 : s.regs.sp - 1#16 - 1#16 = s.regs.sp - 2#16 := by bv_omega
  unfold push16
  simp only [State.setSp_regs, h1, Eff.bind_done]
  rw [hr, h3]; exact h2

theorem pushes_sameButSp {v : Word} {s w : State} (h : Pushes v s w) :
    w.regs.sp = s.regs.sp - 2#16 ∧ SameButSp s w := by
  have h1 := push16_sameButSp v s
  rw [pushes_push16 h] at h1
  obtain ⟨u, _, h2⟩ := h
  exact ⟨by rw [(busWrite_done h2).regs]; rfl, h1⟩

theorem pops_pop16 {s w : State} {v : Word} (h : Pops s v w) :
    pop16 s = .done v (w.setSp (s.regs.sp + 2#16)) ∧ ∃ n, w = { s with extReads := n } := by
  obtain ⟨hi, lo, u, h1, h2, rfl⟩ := h
  obtain ⟨n, rfl⟩ := busRead_done h1
  obtain ⟨m, rfl⟩ := busRead_done h2
  exact ⟨by simp only [pop16, busRead16, h1, h2, Eff.bind_done], m, rfl⟩

/-! ### The ends of rules -/

theorem setFlags_finish (s : State) (z n h c : Bool) (len k : Nat) :
    (s.setFlags z n h c).finish len k = s.ends (s.regs.withFlags z n h c) (s.next len) k := by
  rw [State.finish_of_same (s := s) (by simp [State.setFlags]) (by simp), State.setFlags_regs]
  rfl

theorem setAlu_finish (s : State) (x : AluResult) (len k : Nat) :
    (s.setAlu x).finish len k =
      s.ends ((s.regs.set .a x.r).withFlags x.z x.n x.h x.c) (s.next len) k := by
  unfold State.setAlu
  rw [setFlags_finish]; rfl

theorem setAluFlags_finish (s : State) (x : AluResult) (len k : Nat) :
    (s.setAluFlags x).finish len k = s.ends (s.regs.withFlags x.z x.n x.h x.c) (s.next len) k :=
  setFlags_finish s x.z x.n x.h x.c len k

/-! ### Addresses -/

theorem zeroPage_eq (n : Byte) : zeroPage n = BitVec.ofNat 16 (0xFF00 + n.toNat) := by
  apply BitVec.eq_of_toNat_eq
  simp [zeroPage, zext16, BitVec.toNat_add, BitVec.toNat_setWidth]

theorem add_sext16 (a : Word) (e : Byte) :
    a + sext16 e = BitVec.ofInt 16 (a.toNat + e.toInt) := by
  unfold sext16
  apply BitVec.eq_of_toInt_eq
  rw [BitVec.toInt_add, BitVec.toInt_ofInt, BitVec.toInt_signExtend_of_le (by decide),
    BitVec.toInt_eq_toNat_bmod]
  simp

/-! ### The fetch -/

theorem fetch_of_fetchedAs {s u : State} {b0 b1 b2 : Byte} (h : s.FetchedAs b0 b1 b2 u) :
    fetch { s with halted := false } = .done (b0, b1, b2) u := by
  obtain ⟨hb, u0, u1, h0, h1, h2⟩ := h
  have h3 : s.regs.pc + 1#16 + 1#16 = s.regs.pc + 2#16 := by bv_omega
  unfold fetch
  simp only
  rw [h0, Eff.bind_done, if_neg (by simp [hb]), h1, Eff.bind_done, h3, h2, Eff.bind_done]

/-- A fetch counts the oracle's answers at most. -/
theorem fetch_done {s u : State} {x : Byte × Byte × Byte} (h : fetch s = .done x u) :
    ∃ n, u = { s with extReads := n } := by
  unfold fetch at h
  simp only at h
  cases h0 : busRead s.regs.pc s with
  | raise k t => rw [h0] at h; cases h
  | done b0 t =>
    obtain ⟨n, rfl⟩ := busRead_done h0
    rw [h0, Eff.bind_done] at h
    generalize s.regs.pc + (if s.haltBugArmed = true then 0#16 else 1#16) = p at h
    cases h1 : busRead p { s with extReads := n } with
    | raise k t => rw [h1] at h; cases h
    | done b1 t =>
      obtain ⟨m, rfl⟩ := busRead_done h1
      rw [h1, Eff.bind_done] at h
      cases h2 : busRead (p + 1#16) { s with extReads := m } with
      | raise k t => rw [h2] at h; cases h
      | done b2 t =>
        obtain ⟨l, rfl⟩ := busRead_done h2
        rw [h2, Eff.bind_done] at h
        cases h
        exact ⟨l, rfl⟩

/-! ### The copies -/

/-- The same operation on a state with another record of what was handed over. -/
def Eff.withLog {α : Type} (l : List ExtEvent) (x : Eff α) : Eff α :=
  match x with
  | .done v t => .done v { t with extLog := l }
  | .raise k t => .raise k { t with extLog := l }

/-- No read looks at the record. -/
theorem busRead_extLog (a : Word) (l : List ExtEvent) (s : State) :
    busRead a { s with extLog := l } = (busRead a s).withLog l := by
  have hr : ({ s with extLog := l } : State).route a = s.route a := route_congr ⟨rfl, rfl, rfl, rfl⟩ a
  unfold busRead
  rw [hr]
  cases s.route a with
  | error k => rfl
  | ok d =>
    cases d <;> simp only [deviceGet8]
    case cartridge => cases s.cart.get8 s.params a <;> rfl
    case ramBanks =>
      have : ramBanksGet8 { s with extLog := l } a = ramBanksGet8 s a := rfl
      rw [this]; cases ramBanksGet8 s a <;> rfl
    case interruptController =>
      have : interruptGet8 { s with extLog := l } a = interruptGet8 s a := rfl
      rw [this]; cases interruptGet8 s a <;> rfl
    all_goals rfl

/-- A copy whose bytes all read hands them over, and reads what `get_slice` reads (20_memory R100). -/
theorem dmaCopy_of_slice (src : Word) (ev : Nat → Byte → ExtEvent) (n i : Nat) (s u : State)
    (l : List ExtEvent) (vs : List Byte) (h : busSlice (src + BitVec.ofNat 16 i) n s = .done vs u) :
    dmaCopy src ev n i { s with extLog := l } =
      .done () { u with extLog := ((vs.zipIdx i).map fun p => ev p.2 p.1).reverse ++ l } := by
  induction n generalizing i s l vs with
  | zero => simp only [busSlice] at h; cases h; rfl
  | succ n ih =>
    unfold busSlice at h
    unfold dmaCopy
    rw [busRead_extLog]
    have ha : src + BitVec.ofNat 16 i + 1#16 = src + BitVec.ofNat 16 (i + 1) := by
      rw [BitVec.ofNat_add, BitVec.add_assoc]
    cases h1 : busRead (src + BitVec.ofNat 16 i) s with
    | raise k t => rw [h1] at h; cases h
    | done v t =>
      rw [h1, Eff.bind_done, ha] at h
      cases h2 : busSlice (src + BitVec.ofNat 16 (i + 1)) n t with
      | raise k t => rw [h2] at h; cases h
      | done ws w =>
        rw [h2, Eff.bind_done] at h
        cases h
        simp only [Eff.withLog, Eff.bind_done, State.logExt]
        rw [ih (i + 1) t (ev i v :: l) ws h2]
        simp

/-- A copy whose byte `n` does not read keeps the bytes handed over before it (20_memory R101). -/
theorem dmaCopy_of_raise (src : Word) (ev : Nat → Byte → ExtEvent) (m n i : Nat) (s u w : State)
    (l : List ExtEvent) (vs : List Byte) (k : Fatal)
    (h : busSlice (src + BitVec.ofNat 16 i) n s = .done vs u) (hm : n < m)
    (hk : busRead (src + BitVec.ofNat 16 (i + n)) u = .raise k w) :
    dmaCopy src ev m i { s with extLog := l } =
      .raise k { w with extLog := ((vs.zipIdx i).map fun p => ev p.2 p.1).reverse ++ l } := by
  induction n generalizing i s l vs m with
  | zero =>
    simp only [busSlice] at h; cases h
    obtain ⟨m, rfl⟩ : ∃ j, m = j + 1 := ⟨m - 1, by omega⟩
    unfold dmaCopy
    rw [busRead_extLog]
    simp only [Nat.add_zero] at hk
    rw [hk]; rfl
  | succ n ih =>
    obtain ⟨m, rfl⟩ : ∃ j, m = j + 1 := ⟨m - 1, by omega⟩
    unfold busSlice at h
    unfold dmaCopy
    rw [busRead_extLog]
    have ha : src + BitVec.ofNat 16 i + 1#16 = src + BitVec.ofNat 16 (i + 1) := by
      rw [BitVec.ofNat_add, BitVec.add_assoc]
    cases h1 : busRead (src + BitVec.ofNat 16 i) s with
    | raise k t => rw [h1] at h; cases h
    | done v t =>
      rw [h1, Eff.bind_done, ha] at h
      cases h2 : busSlice (src + BitVec.ofNat 16 (i + 1)) n t with
      | raise k t => rw [h2] at h; cases h
      | done ws w =>
        rw [h2, Eff.bind_done] at h
        cases h
        simp only [Eff.withLog, Eff.bind_done, State.logExt]
        rw [ih m (i + 1) t (ev i v :: l) ws h2 (by omega)
          (by rw [show i + 1 + n = i + (n + 1) by omega]; exact hk)]
        simp

/-! ### The boundary between two steps -/

theorem request_getLsbD (i : Source) (s : State) (k : Nat) :
    (s.request i).intRequest.getLsbD k = (s.intRequest.getLsbD k || i.bit == k) := by
  have h : ∀ (i : Source) (k : Nat), i.mask.getLsbD k = (i.bit == k) := by
    intro i k
    by_cases hk : k < 8
    · have : ∀ (i : Fin 4) (k : Fin 8), (1#8 <<< i.val).getLsbD k.val = (i.val == k.val) := by decide
      cases i
      · exact this 0 ⟨k, hk⟩
      · exact this 1 ⟨k, hk⟩
      · exact this 2 ⟨k, hk⟩
      · exact this 3 ⟨k, hk⟩
    · rw [BitVec.getLsbD_of_ge _ _ (by omega)]
      cases i <;> simp [Source.bit] <;> omega
  simp [State.request, h]

/-- Requests set bits of the request mask and nothing else (60_exceptions R343, R370). -/
theorem requestAll_eq (xs : List Source) (s : State) :
    s.requestAll xs = { s with intRequest := (s.requestAll xs).intRequest } ∧
      ∀ k, (s.requestAll xs).intRequest.getLsbD k =
        (s.intRequest.getLsbD k || xs.any fun i => i.bit == k) := by
  induction xs generalizing s with
  | nil => exact ⟨rfl, fun k => by simp [State.requestAll]⟩
  | cons x xs ih =>
    obtain ⟨h, hk⟩ := ih (s.request x)
    refine ⟨h, fun k => ?_⟩
    rw [State.requestAll, hk, request_getLsbD, List.any_cons, Bool.or_assoc]

/-- A tick consumes the head of the schedule and sets the bits of what it raises. -/
theorem tick_eq (s : State) : ∃ r i, s.tick = { s with intRequest := r, inputs := i } := by
  unfold State.tick
  split
  · exact ⟨_, _, rfl⟩
  · exact ⟨_, _, (requestAll_eq s.boundary.raised { s with inputs := s.inputs.tail }).1⟩

/-- The boundary does what the tick does, and can wake a stopped core. -/
theorem atBoundary_eq (s : State) :
    ∃ r st i, s.atBoundary = { s with intRequest := r, stopped := st, inputs := i } := by
  obtain ⟨r, i, h⟩ := tick_eq s
  unfold State.atBoundary
  split
  · exact ⟨_, _, _, rfl⟩
  · split
    · rw [h]; exact ⟨r, false, i, rfl⟩
    · rw [h]; exact ⟨r, s.stopped, i, rfl⟩

end Sys2Proof.Machine
end

