-- ==== Sys2Proof/Laws/Invariant.lean ====
section
/-! SUPPORT. Every operation on memory keeps the canonical form and the sizes; the reset memory has
them. -/

namespace Sys2Proof.Machine

/-- The memory of `State.reset` is canonical. -/
theorem reset_memories_wf :
    State.reset.cart.rom.wf = true ∧ State.reset.cart.ram.wf = true ∧ State.reset.wram.wf = true ∧
      State.reset.hram.wf = true := by decide

/-- A control write keeps what is claimed of the cartridge: its arrays do not move and the variant
stays. -/
theorem Cart.inv_control {c : Cart} (a : Word) (v : Byte) (h : c.inv) :
    Cart.inv { c with mbc := c.mbc.control a v } := by
  have hm : (c.mbc.control a v).isMbc2 = c.mbc.isMbc2 := by
    have := Mbc.control_variant c.mbc a v
    cases hc : c.mbc <;> cases hd : c.mbc.control a v <;> simp_all [Mbc.variant, Mbc.isMbc2]
  unfold Cart.inv at h ⊢
  simpa only [hm] using h

/-- The index behind the RAM window is inside the array (20_memory R128). -/
theorem Cart.ramIndex_lt {c : Cart} (a : Word) (h : c.inv) (hl : c.ramLen ≠ 0) :
    c.ramIndex a < c.ramLen := by
  unfold Cart.inv at h
  simp only [Bool.and_eq_true, Bool.or_eq_true, Bool.not_eq_true', decide_eq_true_eq] at h
  unfold Cart.ramIndex
  split
  · next hm =>
    rcases h.2 with h2 | h2
    · simp [hm] at h2
    · rw [h2.1]; omega
  · exact Nat.mod_lt _ (Nat.pos_of_ne_zero hl)

/-- A write of the RAM window keeps what is claimed of the cartridge (20_memory R126, R128). -/
theorem Cart.inv_ramWrite {c : Cart} (p : Params) (a : Word) (v : Byte) (h : c.inv) :
    (c.ramWrite p a v).inv := by
  unfold Cart.ramWrite
  split
  · exact h
  · split
    · exact h
    · next hl =>
      split
      · exact h
      · have hi := Cart.ramIndex_lt a h hl
        unfold Cart.inv at h
        simp only [Bool.and_eq_true, Bool.or_eq_true, Bool.not_eq_true', decide_eq_true_eq] at h
        obtain ⟨⟨⟨⟨⟨h1, h2⟩, h3⟩, h4⟩, h5⟩, h6⟩ := h
        split
        · next hm =>
          have h7 : c.ramLen = 512 ∧ (c.ram.all fun e => decide (e.2.toNat < 16)) = true := by
            rcases h6 with h6 | h6
            · simp [hm] at h6
            · exact h6
          have hv : decide ((v &&& 0x0F#8).toNat < 16) = true := by
            have : ∀ v : Byte, decide ((v &&& 0x0F#8).toNat < 16) = true := by decide
            exact this v
          unfold Cart.inv
          simp only [Bool.and_eq_true, Bool.or_eq_true, Bool.not_eq_true', decide_eq_true_eq]
          exact ⟨⟨⟨⟨⟨h1, h2⟩, h3⟩, Memory.wf_write _ _ h4⟩, Memory.below_write _ h5 hi⟩,
            .inr ⟨h7.1, Memory.all_write (fun b => decide (b.toNat < 16)) _ _ h7.2 hv⟩⟩
        · next hm =>
          unfold Cart.inv
          simp only [Bool.and_eq_true, Bool.or_eq_true, Bool.not_eq_true', decide_eq_true_eq]
          exact ⟨⟨⟨⟨⟨h1, h2⟩, h3⟩, Memory.wf_write _ _ h4⟩, Memory.below_write _ h5 hi⟩,
            .inl (by simpa using hm)⟩

theorem Cart.inv_set8 {c d : Cart} {p : Params} {a : Word} {v : Byte} (h : c.inv)
    (hd : c.set8 p a v = some d) : d.inv := by
  unfold Cart.set8 at hd
  split at hd
  · cases hd; exact Cart.inv_control a v h
  · split at hd
    · cases hd; exact Cart.inv_ramWrite p a v h
    · cases hd

theorem wramIndex_lt {a : Word} {i : Nat} (h : wramIndex a = some i) : i < 8192 := by
  unfold wramIndex at h
  split at h
  · have := Option.some.inj h; omega
  · split at h
    · have := Option.some.inj h; omega
    · cases h

theorem hramIndex_lt {a : Word} {i : Nat} (h : hramIndex a = some i) : i < 127 := by
  unfold hramIndex at h
  split at h
  · have := Option.some.inj h; omega
  · cases h

/-- The invariant, part by part. -/
theorem State.inv_iff (s : State) : s.inv = true ↔
    s.cart.inv = true ∧ (s.wram.wf = true ∧ s.wram.below 8192 = true) ∧
      (s.hram.wf = true ∧ s.hram.below 127 = true) ∧ s.regs.f &&& 0x0F#8 = 0x00#8 ∧
      ¬(s.halted = true ∧ s.stopped = true) ∧
      (s.haltBugArmed = true → s.params.haltBug = true) := by
  unfold State.inv
  simp only [Bool.and_eq_true, Bool.or_eq_true, Bool.not_eq_true', beq_iff_eq]
  cases s.halted <;> cases s.stopped <;> cases s.haltBugArmed <;> cases s.params.haltBug <;>
    simp [and_assoc]

/-- The invariant looks at these parts alone. -/
theorem State.inv_congr {s t : State} (hc : t.cart = s.cart) (hw : t.wram = s.wram)
    (hh : t.hram = s.hram) (hf : t.regs.f = s.regs.f) (ha : t.halted = s.halted)
    (hs : t.stopped = s.stopped) (hb : t.haltBugArmed = s.haltBugArmed)
    (hp : t.params = s.params) : t.inv = s.inv := by
  unfold State.inv
  rw [hc, hw, hh, hf, ha, hs, hb, hp]

/-- A write of a device keeps the invariant. -/
theorem deviceSet8_inv {s : State} (d : DeviceId) (a : Word) (v : Byte) (h : s.inv) :
    (deviceSet8 d a v s).state.inv := by
  cases d <;> simp only [deviceSet8]
  case cartridge =>
    split
    · next c hc =>
      rw [State.inv_iff] at h
      rw [Eff.state_done, State.inv_iff]
      exact ⟨Cart.inv_set8 h.1 hc, h.2⟩
    · exact h
  case ramBanks =>
    unfold ramBanksSet8
    cases hw : wramIndex a with
    | some i =>
      rw [State.inv_iff] at h
      simp only [Eff.state_done, State.inv_iff]
      exact ⟨h.1, ⟨Memory.wf_write _ _ h.2.1.1, Memory.below_write _ h.2.1.2 (wramIndex_lt hw)⟩,
        h.2.2⟩
    | none =>
      cases hh : hramIndex a with
      | some i =>
        rw [State.inv_iff] at h
        simp only [Eff.state_done, State.inv_iff]
        exact ⟨h.1, h.2.1,
          ⟨Memory.wf_write _ _ h.2.2.1.1, Memory.below_write _ h.2.2.1.2 (hramIndex_lt hh)⟩,
          h.2.2.2⟩
      | none => exact h
  case interruptController =>
    unfold interruptSet8
    split
    · next t ht =>
      split at ht
      · cases ht; exact h
      · split at ht
        · cases ht; exact h
        · cases ht
    · exact h
  all_goals exact h

/-- A bus write keeps the invariant, completed or not. -/
theorem busWrite_inv {s : State} (a : Word) (v : Byte) (h : s.inv) :
    (busWrite a v s).state.inv := by
  unfold busWrite
  split
  · obtain ⟨m, l, hd⟩ := dmaCopy_state (join v 0x00#8) .spriteTable 160 0 s
    unfold spriteDma; rw [hd]; exact h
  · unfold vramBlockTransfer
    split
    · exact h
    · obtain ⟨m, l, hd⟩ := syncBlockTransfer_state (blockLength v) s
      rw [hd]; exact h
  · simp only [bootDisable, Eff.state_done]
    split <;> exact h
  · split
    · exact deviceSet8_inv _ a v h
    · exact h

end Sys2Proof.Machine
end

