-- ==== Sys2Proof/Tests/Slice0.lean ====
section
/-! SUPPORT. The model's own tests. Expected results are the vectors of spec/95_test_vectors.md (their
ids in the names) or hand-written from the tables of 30_encoding; then, for every statement with
hypotheses, a state and operands that meet them. -/

namespace Sys2Proof.Tests

open Sys2Proof Sys2Proof.Machine

/-! ### Which instructions are well formed -/

/-- Each of the eleven invalid bytes is refused (30_encoding R160). -/
theorem test_wellFormed_refuses_invalid :
    ([.invalidD3, .invalidDB, .invalidDD, .invalidE3, .invalidE4, .invalidEB, .invalidEC,
      .invalidED, .invalidF4, .invalidFC, .invalidFD] : List Instr).all (fun i => !i.wellFormed)
      = true := by decide

theorem test_wellFormed_accepts :
    ([.nop, .stop 0x55#8, .halt, .ldAtNnSp 0xFFFF#16, .jrNzE 0x80#8, .set7A] : List Instr).all
      Instr.wellFormed = true := by decide

/-! ### Decoding: every byte of the two tables -/

theorem test_decode_0x (n m : Byte) :
    decode 0x00#8 n m = .nop ∧ decode 0x01#8 n m = .ldBcNn (m ++ n) ∧
    decode 0x02#8 n m = .ldAtBcA ∧ decode 0x03#8 n m = .incBc ∧ decode 0x04#8 n m = .incB ∧
    decode 0x05#8 n m = .decB ∧ decode 0x06#8 n m = .ldBN n ∧ decode 0x07#8 n m = .rlca ∧
    decode 0x08#8 n m = .ldAtNnSp (m ++ n) ∧ decode 0x09#8 n m = .addHlBc ∧
    decode 0x0A#8 n m = .ldAAtBc ∧ decode 0x0B#8 n m = .decBc ∧ decode 0x0C#8 n m = .incC ∧
    decode 0x0D#8 n m = .decC ∧ decode 0x0E#8 n m = .ldCN n ∧ decode 0x0F#8 n m = .rrca :=
  ⟨rfl, rfl, rfl, rfl, rfl, rfl, rfl, rfl, rfl, rfl, rfl, rfl, rfl, rfl, rfl, rfl⟩

theorem test_decode_1x (n m : Byte) :
    decode 0x10#8 n m = .stop n ∧ decode 0x11#8 n m = .ldDeNn (m ++ n) ∧
    decode 0x12#8 n m = .ldAtDeA ∧ decode 0x13#8 n m = .incDe ∧ decode 0x14#8 n m = .incD ∧
    decode 0x15#8 n m = .decD ∧ decode 0x16#8 n m = .ldDN n ∧ decode 0x17#8 n m = .rla ∧
    decode 0x18#8 n m = .jrE n ∧ decode 0x19#8 n m = .addHlDe ∧ decode 0x1A#8 n m = .ldAAtDe ∧
    decode 0x1B#8 n m = .decDe ∧ decode 0x1C#8 n m = .incE ∧ decode 0x1D#8 n m = .decE ∧
    decode 0x1E#8 n m = .ldEN n ∧ decode 0x1F#8 n m = .rra :=
  ⟨rfl, rfl, rfl, rfl, rfl, rfl, rfl, rfl, rfl, rfl, rfl, rfl, rfl, rfl, rfl, rfl⟩

theorem test_decode_2x (n m : Byte) :
    decode 0x20#8 n m = .jrNzE n ∧ decode 0x21#8 n m = .ldHlNn (m ++ n) ∧
    decode 0x22#8 n m = .ldAtHlIncA ∧ decode 0x23#8 n m = .incHl ∧ decode 0x24#8 n m = .incH ∧
    decode 0x25#8 n m = .decH ∧ decode 0x26#8 n m = .ldHN n ∧ decode 0x27#8 n m = .daa ∧
    decode 0x28#8 n m = .jrZE n ∧ decode 0x29#8 n m = .addHlHl ∧ decode 0x2A#8 n m = .ldAAtHlInc ∧
    decode 0x2B#8 n m = .decHl ∧ decode 0x2C#8 n m = .incL ∧ decode 0x2D#8 n m = .decL ∧
    decode 0x2E#8 n m = .ldLN n ∧ decode 0x2F#8 n m = .cpl :=
  ⟨rfl, rfl, rfl, rfl, rfl, rfl, rfl, rfl, rfl, rfl, rfl, rfl, rfl, rfl, rfl, rfl⟩

theorem test_decode_3x (n m : Byte) :
    decode 0x30#8 n m = .jrNcE n ∧ decode 0x31#8 n m = .ldSpNn (m ++ n) ∧
    decode 0x32#8 n m = .ldAtHlDecA ∧ decode 0x33#8 n m = .incSp ∧ decode 0x34#8 n m = .incAtHl ∧
    decode 0x35#8 n m = .decAtHl ∧ decode 0x36#8 n m = .ldAtHlN n ∧ decode 0x37#8 n m = .scf ∧
    decode 0x38#8 n m = .jrCE n ∧ decode 0x39#8 n m = .addHlSp ∧ decode 0x3A#8 n m = .ldAAtHlDec ∧
    decode 0x3B#8 n m = .decSp ∧ decode 0x3C#8 n m = .incA ∧ decode 0x3D#8 n m = .decA ∧
    decode 0x3E#8 n m = .ldAN n ∧ decode 0x3F#8 n m = .ccf :=
  ⟨rfl, rfl, rfl, rfl, rfl, rfl, rfl, rfl, rfl, rfl, rfl, rfl, rfl, rfl, rfl, rfl⟩

theorem test_decode_4x (n m : Byte) :
    decode 0x40#8 n m = .ldBB ∧ decode 0x41#8 n m = .ldBC ∧ decode 0x42#8 n m = .ldBD ∧
    decode 0x43#8 n m = .ldBE ∧ decode 0x44#8 n m = .ldBH ∧ decode 0x45#8 n m = .ldBL ∧
    decode 0x46#8 n m = .ldBAtHl ∧ decode 0x47#8 n m = .ldBA ∧ decode 0x48#8 n m = .ldCB ∧
    decode 0x49#8 n m = .ldCC ∧ decode 0x4A#8 n m = .ldCD ∧ decode 0x4B#8 n m = .ldCE ∧
    decode 0x4C#8 n m = .ldCH ∧ decode 0x4D#8 n m = .ldCL ∧ decode 0x4E#8 n m = .ldCAtHl ∧
    decode 0x4F#8 n m = .ldCA :=
  ⟨rfl, rfl, rfl, rfl, rfl, rfl, rfl, rfl, rfl, rfl, rfl, rfl, rfl, rfl, rfl, rfl⟩

theorem test_decode_5x (n m : Byte) :
    decode 0x50#8 n m = .ldDB ∧ decode 0x51#8 n m = .ldDC ∧ decode 0x52#8 n m = .ldDD ∧
    decode 0x53#8 n m = .ldDE ∧ decode 0x54#8 n m = .ldDH ∧ decode 0x55#8 n m = .ldDL ∧
    decode 0x56#8 n m = .ldDAtHl ∧ decode 0x57#8 n m = .ldDA ∧ decode 0x58#8 n m = .ldEB ∧
    decode 0x59#8 n m = .ldEC ∧ decode 0x5A#8 n m = .ldED ∧ decode 0x5B#8 n m = .ldEE ∧
    decode 0x5C#8 n m = .ldEH ∧ decode 0x5D#8 n m = .ldEL ∧ decode 0x5E#8 n m = .ldEAtHl ∧
    decode 0x5F#8 n m = .ldEA :=
  ⟨rfl, rfl, rfl, rfl, rfl, rfl, rfl, rfl, rfl, rfl, rfl, rfl, rfl, rfl, rfl, rfl⟩

theorem test_decode_6x (n m : Byte) :
    decode 0x60#8 n m = .ldHB ∧ decode 0x61#8 n m = .ldHC ∧ decode 0x62#8 n m = .ldHD ∧
    decode 0x63#8 n m = .ldHE ∧ decode 0x64#8 n m = .ldHH ∧ decode 0x65#8 n m = .ldHL ∧
    decode 0x66#8 n m = .ldHAtHl ∧ decode 0x67#8 n m = .ldHA ∧ decode 0x68#8 n m = .ldLB ∧
    decode 0x69#8 n m = .ldLC ∧ decode 0x6A#8 n m = .ldLD ∧ decode 0x6B#8 n m = .ldLE ∧
    decode 0x6C#8 n m = .ldLH ∧ decode 0x6D#8 n m = .ldLL ∧ decode 0x6E#8 n m = .ldLAtHl ∧
    decode 0x6F#8 n m = .ldLA :=
  ⟨rfl, rfl, rfl, rfl, rfl, rfl, rfl, rfl, rfl, rfl, rfl, rfl, rfl, rfl, rfl, rfl⟩

theorem test_decode_7x (n m : Byte) :
    decode 0x70#8 n m = .ldAtHlB ∧ decode 0x71#8 n m = .ldAtHlC ∧ decode 0x72#8 n m = .ldAtHlD ∧
    decode 0x73#8 n m = .ldAtHlE ∧ decode 0x74#8 n m = .ldAtHlH ∧ decode 0x75#8 n m = .ldAtHlL ∧
    decode 0x76#8 n m = .halt ∧ decode 0x77#8 n m = .ldAtHlA ∧ decode 0x78#8 n m = .ldAB ∧
    decode 0x79#8 n m = .ldAC ∧ decode 0x7A#8 n m = .ldAD ∧ decode 0x7B#8 n m = .ldAE ∧
    decode 0x7C#8 n m = .ldAH ∧ decode 0x7D#8 n m = .ldAL ∧ decode 0x7E#8 n m = .ldAAtHl ∧
    decode 0x7F#8 n m = .ldAA :=
  ⟨rfl, rfl, rfl, rfl, rfl, rfl, rfl, rfl, rfl, rfl, rfl, rfl, rfl, rfl, rfl, rfl⟩

theorem test_decode_8x (n m : Byte) :
    decode 0x80#8 n m = .addAB ∧ decode 0x81#8 n m = .addAC ∧ decode 0x82#8 n m = .addAD ∧
    decode 0x83#8 n m = .addAE ∧ decode 0x84#8 n m = .addAH ∧ decode 0x85#8 n m = .addAL ∧
    decode 0x86#8 n m = .addAAtHl ∧ decode 0x87#8 n m = .addAA ∧ decode 0x88#8 n m = .adcAB ∧
    decode 0x89#8 n m = .adcAC ∧ decode 0x8A#8 n m = .adcAD ∧ decode 0x8B#8 n m = .adcAE ∧
    decode 0x8C#8 n m = .adcAH ∧ decode 0x8D#8 n m = .adcAL ∧ decode 0x8E#8 n m = .adcAAtHl ∧
    decode 0x8F#8 n m = .adcAA :=
  ⟨rfl, rfl, rfl, rfl, rfl, rfl, rfl, rfl, rfl, rfl, rfl, rfl, rfl, rfl, rfl, rfl⟩

theorem test_decode_9x (n m : Byte) :
    decode 0x90#8 n m = .subB ∧ decode 0x91#8 n m = .subC ∧ decode 0x92#8 n m = .subD ∧
    decode 0x93#8 n m = .subE ∧ decode 0x94#8 n m = .subH ∧ decode 0x95#8 n m = .subL ∧
    decode 0x96#8 n m = .subAtHl ∧ decode 0x97#8 n m = .subA ∧ decode 0x98#8 n m = .sbcAB ∧
    decode 0x99#8 n m = .sbcAC ∧ decode 0x9A#8 n m = .sbcAD ∧ decode 0x9B#8 n m = .sbcAE ∧
    decode 0x9C#8 n m = .sbcAH ∧ decode 0x9D#8 n m = .sbcAL ∧ decode 0x9E#8 n m = .sbcAAtHl ∧
    decode 0x9F#8 n m = .sbcAA :=
  ⟨rfl, rfl, rfl, rfl, rfl, rfl, rfl, rfl, rfl, rfl, rfl, rfl, rfl, rfl, rfl, rfl⟩

theorem test_decode_Ax (n m : Byte) :
    decode 0xA0#8 n m = .andB ∧ decode 0xA1#8 n m = .andC ∧ decode 0xA2#8 n m = .andD ∧
    decode 0xA3#8 n m = .andE ∧ decode 0xA4#8 n m = .andH ∧ decode 0xA5#8 n m = .andL ∧
    decode 0xA6#8 n m = .andAtHl ∧ decode 0xA7#8 n m = .andA ∧ decode 0xA8#8 n m = .xorB ∧
    decode 0xA9#8 n m = .xorC ∧ decode 0xAA#8 n m = .xorD ∧ decode 0xAB#8 n m = .xorE ∧
    decode 0xAC#8 n m = .xorH ∧ decode 0xAD#8 n m = .xorL ∧ decode 0xAE#8 n m = .xorAtHl ∧
    decode 0xAF#8 n m = .xorA :=
  ⟨rfl, rfl, rfl, rfl, rfl, rfl, rfl, rfl, rfl, rfl, rfl, rfl, rfl, rfl, rfl, rfl⟩

theorem test_decode_Bx (n m : Byte) :
    decode 0xB0#8 n m = .orB ∧ decode 0xB1#8 n m = .orC ∧ decode 0xB2#8 n m = .orD ∧
    decode 0xB3#8 n m = .orE ∧ decode 0xB4#8 n m = .orH ∧ decode 0xB5#8 n m = .orL ∧
    decode 0xB6#8 n m = .orAtHl ∧ decode 0xB7#8 n m = .orA ∧ decode 0xB8#8 n m = .cpB ∧
    decode 0xB9#8 n m = .cpC ∧ decode 0xBA#8 n m = .cpD ∧ decode 0xBB#8 n m = .cpE ∧
    decode 0xBC#8 n m = .cpH ∧ decode 0xBD#8 n m = .cpL ∧ decode 0xBE#8 n m = .cpAtHl ∧
    decode 0xBF#8 n m = .cpA :=
  ⟨rfl, rfl, rfl, rfl, rfl, rfl, rfl, rfl, rfl, rfl, rfl, rfl, rfl, rfl, rfl, rfl⟩

theorem test_decode_Cx (n m : Byte) :
    decode 0xC0#8 n m = .retNz ∧ decode 0xC1#8 n m = .popBc ∧
    decode 0xC2#8 n m = .jpNzNn (m ++ n) ∧ decode 0xC3#8 n m = .jpNn (m ++ n) ∧
    decode 0xC4#8 n m = .callNzNn (m ++ n) ∧ decode 0xC5#8 n m = .pushBc ∧
    decode 0xC6#8 n m = .addAN n ∧ decode 0xC7#8 n m = .rst00 ∧ decode 0xC8#8 n m = .retZ ∧
    decode 0xC9#8 n m = .ret ∧ decode 0xCA#8 n m = .jpZNn (m ++ n) ∧
    decode 0xCC#8 n m = .callZNn (m ++ n) ∧ decode 0xCD#8 n m = .callNn (m ++ n) ∧
    decode 0xCE#8 n m = .adcAN n ∧ decode 0xCF#8 n m = .rst08 :=
  ⟨rfl, rfl, rfl, rfl, rfl, rfl, rfl, rfl, rfl, rfl, rfl, rfl, rfl, rfl, rfl⟩

theorem test_decode_Dx (n m : Byte) :
    decode 0xD0#8 n m = .retNc ∧ decode 0xD1#8 n m = .popDe ∧
    decode 0xD2#8 n m = .jpNcNn (m ++ n) ∧ decode 0xD3#8 n m = .invalidD3 ∧
    decode 0xD4#8 n m = .callNcNn (m ++ n) ∧ decode 0xD5#8 n m = .pushDe ∧
    decode 0xD6#8 n m = .subN n ∧ decode 0xD7#8 n m = .rst10 ∧ decode 0xD8#8 n m = .retC ∧
    decode 0xD9#8 n m = .reti ∧ decode 0xDA#8 n m = .jpCNn (m ++ n) ∧
    decode 0xDB#8 n m = .invalidDB ∧ decode 0xDC#8 n m = .callCNn (m ++ n) ∧
    decode 0xDD#8 n m = .invalidDD ∧ decode 0xDE#8 n m = .sbcAN n ∧ decode 0xDF#8 n m = .rst18 :=
  ⟨rfl, rfl, rfl, rfl, rfl, rfl, rfl, rfl, rfl, rfl, rfl, rfl, rfl, rfl, rfl, rfl⟩

theorem test_decode_Ex (n m : Byte) :
    decode 0xE0#8 n m = .ldhAtNA n ∧ decode 0xE1#8 n m = .popHl ∧ decode 0xE2#8 n m = .ldhAtCA ∧
    decode 0xE3#8 n m = .invalidE3 ∧ decode 0xE4#8 n m = .invalidE4 ∧
    decode 0xE5#8 n m = .pushHl ∧ decode 0xE6#8 n m = .andN n ∧ decode 0xE7#8 n m = .rst20 ∧
    decode 0xE8#8 n m = .addSpE n ∧ decode 0xE9#8 n m = .jpHl ∧
    decode 0xEA#8 n m = .ldAtNnA (m ++ n) ∧ decode 0xEB#8 n m = .invalidEB ∧
    decode 0xEC#8 n m = .invalidEC ∧ decode 0xED#8 n m = .invalidED ∧
    decode 0xEE#8 n m = .xorN n ∧ decode 0xEF#8 n m = .rst28 :=
  ⟨rfl, rfl, rfl, rfl, rfl, rfl, rfl, rfl, rfl, rfl, rfl, rfl, rfl, rfl, rfl, rfl⟩

theorem test_decode_Fx (n m : Byte) :
    decode 0xF0#8 n m = .ldhAAtN n ∧ decode 0xF1#8 n m = .popAf ∧ decode 0xF2#8 n m = .ldhAAtC ∧
    decode 0xF3#8 n m = .di ∧ decode 0xF4#8 n m = .invalidF4 ∧ decode 0xF5#8 n m = .pushAf ∧
    decode 0xF6#8 n m = .orN n ∧ decode 0xF7#8 n m = .rst30 ∧ decode 0xF8#8 n m = .ldHlSpE n ∧
    decode 0xF9#8 n m = .ldSpHl ∧ decode 0xFA#8 n m = .ldAAtNn (m ++ n) ∧
    decode 0xFB#8 n m = .ei ∧ decode 0xFC#8 n m = .invalidFC ∧ decode 0xFD#8 n m = .invalidFD ∧
    decode 0xFE#8 n m = .cpN n ∧ decode 0xFF#8 n m = .rst38 :=
  ⟨rfl, rfl, rfl, rfl, rfl, rfl, rfl, rfl, rfl, rfl, rfl, rfl, rfl, rfl, rfl, rfl⟩

theorem test_decode_CB_0x (m : Byte) :
    decode 0xCB#8 0x00#8 m = .rlcB ∧ decode 0xCB#8 0x01#8 m = .rlcC ∧
    decode 0xCB#8 0x02#8 m = .rlcD ∧ decode 0xCB#8 0x03#8 m = .rlcE ∧
    decode 0xCB#8 0x04#8 m = .rlcH ∧ decode 0xCB#8 0x05#8 m = .rlcL ∧
    decode 0xCB#8 0x06#8 m = .rlcAtHl ∧ decode 0xCB#8 0x07#8 m = .rlcA ∧
    decode 0xCB#8 0x08#8 m = .rrcB ∧ decode 0xCB#8 0x09#8 m = .rrcC ∧
    decode 0xCB#8 0x0A#8 m = .rrcD ∧ decode 0xCB#8 0x0B#8 m = .rrcE ∧
    decode 0xCB#8 0x0C#8 m = .rrcH ∧ decode 0xCB#8 0x0D#8 m = .rrcL ∧
    decode 0xCB#8 0x0E#8 m = .rrcAtHl ∧ decode 0xCB#8 0x0F#8 m = .rrcA :=
  ⟨rfl, rfl, rfl, rfl, rfl, rfl, rfl, rfl, rfl, rfl, rfl, rfl, rfl, rfl, rfl, rfl⟩

theorem test_decode_CB_1x (m : Byte) :
    decode 0xCB#8 0x10#8 m = .rlB ∧ decode 0xCB#8 0x11#8 m = .rlC ∧
    decode 0xCB#8 0x12#8 m = .rlD ∧ decode 0xCB#8 0x13#8 m = .rlE ∧
    decode 0xCB#8 0x14#8 m = .rlH ∧ decode 0xCB#8 0x15#8 m = .rlL ∧
    decode 0xCB#8 0x16#8 m = .rlAtHl ∧ decode 0xCB#8 0x17#8 m = .rlA ∧
    decode 0xCB#8 0x18#8 m = .rrB ∧ decode 0xCB#8 0x19#8 m = .rrC ∧
    decode 0xCB#8 0x1A#8 m = .rrD ∧ decode 0xCB#8 0x1B#8 m = .rrE ∧
    decode 0xCB#8 0x1C#8 m = .rrH ∧ decode 0xCB#8 0x1D#8 m = .rrL ∧
    decode 0xCB#8 0x1E#8 m = .rrAtHl ∧ decode 0xCB#8 0x1F#8 m = .rrA :=
  ⟨rfl, rfl, rfl, rfl, rfl, rfl, rfl, rfl, rfl, rfl, rfl, rfl, rfl, rfl, rfl, rfl⟩

theorem test_decode_CB_2x (m : Byte) :
    decode 0xCB#8 0x20#8 m = .slaB ∧ decode 0xCB#8 0x21#8 m = .slaC ∧
    decode 0xCB#8 0x22#8 m = .slaD ∧ decode 0xCB#8 0x23#8 m = .slaE ∧
    decode 0xCB#8 0x24#8 m = .slaH ∧ decode 0xCB#8 0x25#8 m = .slaL ∧
    decode 0xCB#8 0x26#8 m = .slaAtHl ∧ decode 0xCB#8 0x27#8 m = .slaA ∧
    decode 0xCB#8 0x28#8 m = .sraB ∧ decode 0xCB#8 0x29#8 m = .sraC ∧
    decode 0xCB#8 0x2A#8 m = .sraD ∧ decode 0xCB#8 0x2B#8 m = .sraE ∧
    decode 0xCB#8 0x2C#8 m = .sraH ∧ decode 0xCB#8 0x2D#8 m = .sraL ∧
    decode 0xCB#8 0x2E#8 m = .sraAtHl ∧ decode 0xCB#8 0x2F#8 m = .sraA :=
  ⟨rfl, rfl, rfl, rfl, rfl, rfl, rfl, rfl, rfl, rfl, rfl, rfl, rfl, rfl, rfl, rfl⟩

theorem test_decode_CB_3x (m : Byte) :
    decode 0xCB#8 0x30#8 m = .swapB ∧ decode 0xCB#8 0x31#8 m = .swapC ∧
    decode 0xCB#8 0x32#8 m = .swapD ∧ decode 0xCB#8 0x33#8 m = .swapE ∧
    decode 0xCB#8 0x34#8 m = .swapH ∧ decode 0xCB#8 0x35#8 m = .swapL ∧
    decode 0xCB#8 0x36#8 m = .swapAtHl ∧ decode 0xCB#8 0x37#8 m = .swapA ∧
    decode 0xCB#8 0x38#8 m = .srlB ∧ decode 0xCB#8 0x39#8 m = .srlC ∧
    decode 0xCB#8 0x3A#8 m = .srlD ∧ decode 0xCB#8 0x3B#8 m = .srlE ∧
    decode 0xCB#8 0x3C#8 m = .srlH ∧ decode 0xCB#8 0x3D#8 m = .srlL ∧
    decode 0xCB#8 0x3E#8 m = .srlAtHl ∧ decode 0xCB#8 0x3F#8 m = .srlA :=
  ⟨rfl, rfl, rfl, rfl, rfl, rfl, rfl, rfl, rfl, rfl, rfl, rfl, rfl, rfl, rfl, rfl⟩

theorem test_decode_CB_4x (m : Byte) :
    decode 0xCB#8 0x40#8 m = .bit0B ∧ decode 0xCB#8 0x41#8 m = .bit0C ∧
    decode 0xCB#8 0x42#8 m = .bit0D ∧ decode 0xCB#8 0x43#8 m = .bit0E ∧
    decode 0xCB#8 0x44#8 m = .bit0H ∧ decode 0xCB#8 0x45#8 m = .bit0L ∧
    decode 0xCB#8 0x46#8 m = .bit0AtHl ∧ decode 0xCB#8 0x47#8 m = .bit0A ∧
    decode 0xCB#8 0x48#8 m = .bit1B ∧ decode 0xCB#8 0x49#8 m = .bit1C ∧
    decode 0xCB#8 0x4A#8 m = .bit1D ∧ decode 0xCB#8 0x4B#8 m = .bit1E ∧
    decode 0xCB#8 0x4C#8 m = .bit1H ∧ decode 0xCB#8 0x4D#8 m = .bit1L ∧
    decode 0xCB#8 0x4E#8 m = .bit1AtHl ∧ decode 0xCB#8 0x4F#8 m = .bit1A :=
  ⟨rfl, rfl, rfl, rfl, rfl, rfl, rfl, rfl, rfl, rfl, rfl, rfl, rfl, rfl, rfl, rfl⟩

theorem test_decode_CB_5x (m : Byte) :
    decode 0xCB#8 0x50#8 m = .bit2B ∧ decode 0xCB#8 0x51#8 m = .bit2C ∧
    decode 0xCB#8 0x52#8 m = .bit2D ∧ decode 0xCB#8 0x53#8 m = .bit2E ∧
    decode 0xCB#8 0x54#8 m = .bit2H ∧ decode 0xCB#8 0x55#8 m = .bit2L ∧
    decode 0xCB#8 0x56#8 m = .bit2AtHl ∧ decode 0xCB#8 0x57#8 m = .bit2A ∧
    decode 0xCB#8 0x58#8 m = .bit3B ∧ decode 0xCB#8 0x59#8 m = .bit3C ∧
    decode 0xCB#8 0x5A#8 m = .bit3D ∧ decode 0xCB#8 0x5B#8 m = .bit3E ∧
    decode 0xCB#8 0x5C#8 m = .bit3H ∧ decode 0xCB#8 0x5D#8 m = .bit3L ∧
    decode 0xCB#8 0x5E#8 m = .bit3AtHl ∧ decode 0xCB#8 0x5F#8 m = .bit3A :=
  ⟨rfl, rfl, rfl, rfl, rfl, rfl, rfl, rfl, rfl, rfl, rfl, rfl, rfl, rfl, rfl, rfl⟩

theorem test_decode_CB_6x (m : Byte) :
    decode 0xCB#8 0x60#8 m = .bit4B ∧ decode 0xCB#8 0x61#8 m = .bit4C ∧
    decode 0xCB#8 0x62#8 m = .bit4D ∧ decode 0xCB#8 0x63#8 m = .bit4E ∧
    decode 0xCB#8 0x64#8 m = .bit4H ∧ decode 0xCB#8 0x65#8 m = .bit4L ∧
    decode 0xCB#8 0x66#8 m = .bit4AtHl ∧ decode 0xCB#8 0x67#8 m = .bit4A ∧
    decode 0xCB#8 0x68#8 m = .bit5B ∧ decode 0xCB#8 0x69#8 m = .bit5C ∧
    decode 0xCB#8 0x6A#8 m = .bit5D ∧ decode 0xCB#8 0x6B#8 m = .bit5E ∧
    decode 0xCB#8 0x6C#8 m = .bit5H ∧ decode 0xCB#8 0x6D#8 m = .bit5L ∧
    decode 0xCB#8 0x6E#8 m = .bit5AtHl ∧ decode 0xCB#8 0x6F#8 m = .bit5A :=
  ⟨rfl, rfl, rfl, rfl, rfl, rfl, rfl, rfl, rfl, rfl, rfl, rfl, rfl, rfl, rfl, rfl⟩

theorem test_decode_CB_7x (m : Byte) :
    decode 0xCB#8 0x70#8 m = .bit6B ∧ decode 0xCB#8 0x71#8 m = .bit6C ∧
    decode 0xCB#8 0x72#8 m = .bit6D ∧ decode 0xCB#8 0x73#8 m = .bit6E ∧
    decode 0xCB#8 0x74#8 m = .bit6H ∧ decode 0xCB#8 0x75#8 m = .bit6L ∧
    decode 0xCB#8 0x76#8 m = .bit6AtHl ∧ decode 0xCB#8 0x77#8 m = .bit6A ∧
    decode 0xCB#8 0x78#8 m = .bit7B ∧ decode 0xCB#8 0x79#8 m = .bit7C ∧
    decode 0xCB#8 0x7A#8 m = .bit7D ∧ decode 0xCB#8 0x7B#8 m = .bit7E ∧
    decode 0xCB#8 0x7C#8 m = .bit7H ∧ decode 0xCB#8 0x7D#8 m = .bit7L ∧
    decode 0xCB#8 0x7E#8 m = .bit7AtHl ∧ decode 0xCB#8 0x7F#8 m = .bit7A :=
  ⟨rfl, rfl, rfl, rfl, rfl, rfl, rfl, rfl, rfl, rfl, rfl, rfl, rfl, rfl, rfl, rfl⟩

theorem test_decode_CB_8x (m : Byte) :
    decode 0xCB#8 0x80#8 m = .res0B ∧ decode 0xCB#8 0x81#8 m = .res0C ∧
    decode 0xCB#8 0x82#8 m = .res0D ∧ decode 0xCB#8 0x83#8 m = .res0E ∧
    decode 0xCB#8 0x84#8 m = .res0H ∧ decode 0xCB#8 0x85#8 m = .res0L ∧
    decode 0xCB#8 0x86#8 m = .res0AtHl ∧ decode 0xCB#8 0x87#8 m = .res0A ∧
    decode 0xCB#8 0x88#8 m = .res1B ∧ decode 0xCB#8 0x89#8 m = .res1C ∧
    decode 0xCB#8 0x8A#8 m = .res1D ∧ decode 0xCB#8 0x8B#8 m = .res1E ∧
    decode 0xCB#8 0x8C#8 m = .res1H ∧ decode 0xCB#8 0x8D#8 m = .res1L ∧
    decode 0xCB#8 0x8E#8 m = .res1AtHl ∧ decode 0xCB#8 0x8F#8 m = .res1A :=
  ⟨rfl, rfl, rfl, rfl, rfl, rfl, rfl, rfl, rfl, rfl, rfl, rfl, rfl, rfl, rfl, rfl⟩

theorem test_decode_CB_9x (m : Byte) :
    decode 0xCB#8 0x90#8 m = .res2B ∧ decode 0xCB#8 0x91#8 m = .res2C ∧
    decode 0xCB#8 0x92#8 m = .res2D ∧ decode 0xCB#8 0x93#8 m = .res2E ∧
    decode 0xCB#8 0x94#8 m = .res2H ∧ decode 0xCB#8 0x95#8 m = .res2L ∧
    decode 0xCB#8 0x96#8 m = .res2AtHl ∧ decode 0xCB#8 0x97#8 m = .res2A ∧
    decode 0xCB#8 0x98#8 m = .res3B ∧ decode 0xCB#8 0x99#8 m = .res3C ∧
    decode 0xCB#8 0x9A#8 m = .res3D ∧ decode 0xCB#8 0x9B#8 m = .res3E ∧
    decode 0xCB#8 0x9C#8 m = .res3H ∧ decode 0xCB#8 0x9D#8 m = .res3L ∧
    decode 0xCB#8 0x9E#8 m = .res3AtHl ∧ decode 0xCB#8 0x9F#8 m = .res3A :=
  ⟨rfl, rfl, rfl, rfl, rfl, rfl, rfl, rfl, rfl, rfl, rfl, rfl, rfl, rfl, rfl, rfl⟩

theorem test_decode_CB_Ax (m : Byte) :
    decode 0xCB#8 0xA0#8 m = .res4B ∧ decode 0xCB#8 0xA1#8 m = .res4C ∧
    decode 0xCB#8 0xA2#8 m = .res4D ∧ decode 0xCB#8 0xA3#8 m = .res4E ∧
    decode 0xCB#8 0xA4#8 m = .res4H ∧ decode 0xCB#8 0xA5#8 m = .res4L ∧
    decode 0xCB#8 0xA6#8 m = .res4AtHl ∧ decode 0xCB#8 0xA7#8 m = .res4A ∧
    decode 0xCB#8 0xA8#8 m = .res5B ∧ decode 0xCB#8 0xA9#8 m = .res5C ∧
    decode 0xCB#8 0xAA#8 m = .res5D ∧ decode 0xCB#8 0xAB#8 m = .res5E ∧
    decode 0xCB#8 0xAC#8 m = .res5H ∧ decode 0xCB#8 0xAD#8 m = .res5L ∧
    decode 0xCB#8 0xAE#8 m = .res5AtHl ∧ decode 0xCB#8 0xAF#8 m = .res5A :=
  ⟨rfl, rfl, rfl, rfl, rfl, rfl, rfl, rfl, rfl, rfl, rfl, rfl, rfl, rfl, rfl, rfl⟩

theorem test_decode_CB_Bx (m : Byte) :
    decode 0xCB#8 0xB0#8 m = .res6B ∧ decode 0xCB#8 0xB1#8 m = .res6C ∧
    decode 0xCB#8 0xB2#8 m = .res6D ∧ decode 0xCB#8 0xB3#8 m = .res6E ∧
    decode 0xCB#8 0xB4#8 m = .res6H ∧ decode 0xCB#8 0xB5#8 m = .res6L ∧
    decode 0xCB#8 0xB6#8 m = .res6AtHl ∧ decode 0xCB#8 0xB7#8 m = .res6A ∧
    decode 0xCB#8 0xB8#8 m = .res7B ∧ decode 0xCB#8 0xB9#8 m = .res7C ∧
    decode 0xCB#8 0xBA#8 m = .res7D ∧ decode 0xCB#8 0xBB#8 m = .res7E ∧
    decode 0xCB#8 0xBC#8 m = .res7H ∧ decode 0xCB#8 0xBD#8 m = .res7L ∧
    decode 0xCB#8 0xBE#8 m = .res7AtHl ∧ decode 0xCB#8 0xBF#8 m = .res7A :=
  ⟨rfl, rfl, rfl, rfl, rfl, rfl, rfl, rfl, rfl, rfl, rfl, rfl, rfl, rfl, rfl, rfl⟩

theorem test_decode_CB_Cx (m : Byte) :
    decode 0xCB#8 0xC0#8 m = .set0B ∧ decode 0xCB#8 0xC1#8 m = .set0C ∧
    decode 0xCB#8 0xC2#8 m = .set0D ∧ decode 0xCB#8 0xC3#8 m = .set0E ∧
    decode 0xCB#8 0xC4#8 m = .set0H ∧ decode 0xCB#8 0xC5#8 m = .set0L ∧
    decode 0xCB#8 0xC6#8 m = .set0AtHl ∧ decode 0xCB#8 0xC7#8 m = .set0A ∧
    decode 0xCB#8 0xC8#8 m = .set1B ∧ decode 0xCB#8 0xC9#8 m = .set1C ∧
    decode 0xCB#8 0xCA#8 m = .set1D ∧ decode 0xCB#8 0xCB#8 m = .set1E ∧
    decode 0xCB#8 0xCC#8 m = .set1H ∧ decode 0xCB#8 0xCD#8 m = .set1L ∧
    decode 0xCB#8 0xCE#8 m = .set1AtHl ∧ decode 0xCB#8 0xCF#8 m = .set1A :=
  ⟨rfl, rfl, rfl, rfl, rfl, rfl, rfl, rfl, rfl, rfl, rfl, rfl, rfl, rfl, rfl, rfl⟩

theorem test_decode_CB_Dx (m : Byte) :
    decode 0xCB#8 0xD0#8 m = .set2B ∧ decode 0xCB#8 0xD1#8 m = .set2C ∧
    decode 0xCB#8 0xD2#8 m = .set2D ∧ decode 0xCB#8 0xD3#8 m = .set2E ∧
    decode 0xCB#8 0xD4#8 m = .set2H ∧ decode 0xCB#8 0xD5#8 m = .set2L ∧
    decode 0xCB#8 0xD6#8 m = .set2AtHl ∧ decode 0xCB#8 0xD7#8 m = .set2A ∧
    decode 0xCB#8 0xD8#8 m = .set3B ∧ decode 0xCB#8 0xD9#8 m = .set3C ∧
    decode 0xCB#8 0xDA#8 m = .set3D ∧ decode 0xCB#8 0xDB#8 m = .set3E ∧
    decode 0xCB#8 0xDC#8 m = .set3H ∧ decode 0xCB#8 0xDD#8 m = .set3L ∧
    decode 0xCB#8 0xDE#8 m = .set3AtHl ∧ decode 0xCB#8 0xDF#8 m = .set3A :=
  ⟨rfl, rfl, rfl, rfl, rfl, rfl, rfl, rfl, rfl, rfl, rfl, rfl, rfl, rfl, rfl, rfl⟩

theorem test_decode_CB_Ex (m : Byte) :
    decode 0xCB#8 0xE0#8 m = .set4B ∧ decode 0xCB#8 0xE1#8 m = .set4C ∧
    decode 0xCB#8 0xE2#8 m = .set4D ∧ decode 0xCB#8 0xE3#8 m = .set4E ∧
    decode 0xCB#8 0xE4#8 m = .set4H ∧ decode 0xCB#8 0xE5#8 m = .set4L ∧
    decode 0xCB#8 0xE6#8 m = .set4AtHl ∧ decode 0xCB#8 0xE7#8 m = .set4A ∧
    decode 0xCB#8 0xE8#8 m = .set5B ∧ decode 0xCB#8 0xE9#8 m = .set5C ∧
    decode 0xCB#8 0xEA#8 m = .set5D ∧ decode 0xCB#8 0xEB#8 m = .set5E ∧
    decode 0xCB#8 0xEC#8 m = .set5H ∧ decode 0xCB#8 0xED#8 m = .set5L ∧
    decode 0xCB#8 0xEE#8 m = .set5AtHl ∧ decode 0xCB#8 0xEF#8 m = .set5A :=
  ⟨rfl, rfl, rfl, rfl, rfl, rfl, rfl, rfl, rfl, rfl, rfl, rfl, rfl, rfl, rfl, rfl⟩

theorem test_decode_CB_Fx (m : Byte) :
    decode 0xCB#8 0xF0#8 m = .set6B ∧ decode 0xCB#8 0xF1#8 m = .set6C ∧
    decode 0xCB#8 0xF2#8 m = .set6D ∧ decode 0xCB#8 0xF3#8 m = .set6E ∧
    decode 0xCB#8 0xF4#8 m = .set6H ∧ decode 0xCB#8 0xF5#8 m = .set6L ∧
    decode 0xCB#8 0xF6#8 m = .set6AtHl ∧ decode 0xCB#8 0xF7#8 m = .set6A ∧
    decode 0xCB#8 0xF8#8 m = .set7B ∧ decode 0xCB#8 0xF9#8 m = .set7C ∧
    decode 0xCB#8 0xFA#8 m = .set7D ∧ decode 0xCB#8 0xFB#8 m = .set7E ∧
    decode 0xCB#8 0xFC#8 m = .set7H ∧ decode 0xCB#8 0xFD#8 m = .set7L ∧
    decode 0xCB#8 0xFE#8 m = .set7AtHl ∧ decode 0xCB#8 0xFF#8 m = .set7A :=
  ⟨rfl, rfl, rfl, rfl, rfl, rfl, rfl, rfl, rfl, rfl, rfl, rfl, rfl, rfl, rfl, rfl⟩

/-! ### Decoding: words written bit by bit, one or more per family -/

/-- `01 rrr rrr`, `00 rrr 110`, `11 1 0 0010`: 8-bit loads (30_encoding R156). -/
theorem test_bits_load8 (n m : Byte) :
    decode 0b01101110#8 n m = .ldLAtHl ∧ decode 0b01110100#8 n m = .ldAtHlH ∧
    decode 0b00000110#8 n m = .ldBN n ∧ decode 0b00110010#8 n m = .ldAtHlDecA ∧
    decode 0b11100010#8 n m = .ldhAtCA ∧ decode 0b01110110#8 n m = .halt :=
  ⟨rfl, rfl, rfl, rfl, rfl, rfl⟩

/-- `00 rr 0001`, `11 qq 0101`, `11 qq 0001`: 16-bit loads; the immediate low byte first (R152). -/
theorem test_bits_load16 (n m : Byte) :
    decode 0b00010001#8 0x34#8 0x12#8 = .ldDeNn 0x1234#16 ∧
    decode 0b11110101#8 n m = .pushAf ∧ decode 0b11110001#8 n m = .popAf ∧
    decode 0b00001000#8 0x00#8 0xC1#8 = .ldAtNnSp 0xC100#16 := ⟨rfl, rfl, rfl, rfl⟩

/-- `10 alu rrr`, `11 alu 110`, `00 rrr 10d`: 8-bit arithmetic and logic. -/
theorem test_bits_alu8 (n m : Byte) :
    decode 0b10001110#8 n m = .adcAAtHl ∧ decode 0b10111000#8 n m = .cpB ∧
    decode 0b11011110#8 n m = .sbcAN n ∧ decode 0b00110101#8 n m = .decAtHl ∧
    decode 0b00100111#8 n m = .daa := ⟨rfl, rfl, rfl, rfl, rfl⟩

/-- `00 rr 1001`, `00 rr d011`, `1110 1000`: 16-bit arithmetic. -/
theorem test_bits_alu16 (n m : Byte) :
    decode 0b00101001#8 n m = .addHlHl ∧ decode 0b00111011#8 n m = .decSp ∧
    decode 0b11101000#8 0x80#8 m = .addSpE 0x80#8 := ⟨rfl, rfl, rfl⟩

/-- `CB`: `00 rot rrr`, `01 bbb rrr`, `10 bbb rrr`, `11 bbb rrr` (R158). -/
theorem test_bits_rotates (n m : Byte) :
    decode 0xCB#8 0b00110111#8 m = .swapA ∧ decode 0xCB#8 0b01100101#8 m = .bit4L ∧
    decode 0xCB#8 0b10011110#8 m = .res3AtHl ∧ decode 0xCB#8 0b11010011#8 m = .set2E ∧
    decode 0b00011111#8 n m = .rra := ⟨rfl, rfl, rfl, rfl, rfl⟩

/-- `110 cc 010`, `001 cc 000`, `110 cc 100`, `110 cc 000`, `11 ttt 111`: control flow. -/
theorem test_bits_control (n m : Byte) :
    decode 0b11010010#8 0x00#8 0x80#8 = .jpNcNn 0x8000#16 ∧ decode 0b00011000#8 n m = .jrE n ∧
    decode 0b00111000#8 0xFE#8 m = .jrCE 0xFE#8 ∧
    decode 0b11001100#8 0x34#8 0x12#8 = .callZNn 0x1234#16 ∧ decode 0b11000000#8 n m = .retNz ∧
    decode 0b11011001#8 n m = .reti ∧ decode 0b11110111#8 n m = .rst30 :=
  ⟨rfl, rfl, rfl, rfl, rfl, rfl, rfl⟩

/-- A prefix byte and an invalid byte as second byte or immediate (95_test_vectors 2.11). -/
theorem test_bits_special (m : Byte) :
    decode 0xCB#8 0xD3#8 m = .set2E ∧ decode 0x3E#8 0xCB#8 m = .ldAN 0xCB#8 ∧
    decode 0x10#8 0x76#8 m = .stop 0x76#8 ∧ decode 0xD3#8 0x00#8 m = .invalidD3 :=
  ⟨rfl, rfl, rfl, rfl⟩

theorem test_table_words :
    decodeTableWord 8 0x82 = some .addAD ∧ decodeTableWord 16 0xCB37 = some .swapA ∧
    decodeTableWord 24 0x123401 = some (.ldBcNn 0x1234#16) ∧ decodeTableWord 0 0 = none := by
  decide

theorem test_truncated_bytes :
    (decodeBytes [0x01#8, 0x34#8]).toOption = none ∧ (decodeBytes []).toOption = none ∧
    (decodeBytes [0x01#8, 0x34#8, 0x12#8, 0x99#8]).toOption =
      some (.ldBcNn 0x1234#16, [0x99#8]) := by decide

/-! ### One step on a small state -/

/-- Every register 0, `pc` at 0x0100 (95_test_vectors, environment of part 2). -/
def z : RegFile := ⟨0#8, 0#8, 0#8, 0#8, 0#8, 0#8, 0#8, 0#8, 0#16, 0x0100#16⟩

/-- The bytes at consecutive addresses. -/
def place (s : State) (a : Word) : List Byte → State
  | [] => s
  | v :: vs => place (s.poke a v) (a + 1#16) vs

/-- Reset, with the registers `g`, the bytes `mem`, and `code` at `pc`. -/
def start (code : List Byte) (mem : List (Word × Byte)) (g : RegFile) : State :=
  mem.foldl (fun s c => s.poke c.1 c.2) (place { State.reset with regs := g } g.pc code)

/-- The next state. -/
def nextOf (o : Out) : Option State :=
  match o with
  | .next s => some s
  | .fault _ => none
  | .refused _ => none

/-- One step: the registers after it, the cycles it reports, the bytes at `look`. -/
def ran (code : List Byte) (mem : List (Word × Byte)) (g : RegFile) (look : List Word) :
    Option (RegFile × Nat × List Byte) :=
  (nextOf (step (start code mem g))).map fun t =>
    (t.regs, t.lastCycles, look.filterMap t.peek)

theorem test_L1_ld_b_c :
    ran [0x41#8] [] { z with f := 0xF0#8, c := 0x5A#8 } [] =
      some ({ z with f := 0xF0#8, c := 0x5A#8, b := 0x5A#8, pc := 0x0101#16 },
        1, []) := by decide
theorem test_L5_ld_b_hl :
    ran [0x46#8] [(0xC123, 0x99#8)] { z with h := 0xC1#8, l := 0x23#8 } [] =
      some ({ z with h := 0xC1#8, l := 0x23#8, b := 0x99#8, pc := 0x0101#16 },
        2, []) := by decide
theorem test_L6_ld_l_hl :
    ran [0x6E#8] [(0xC123, 0x42#8)] { z with h := 0xC1#8, l := 0x23#8 } [] =
      some ({ z with h := 0xC1#8, l := 0x42#8, pc := 0x0101#16 }, 2, []) := by decide
theorem test_L8_ld_hl_h :
    ran [0x74#8] [] { z with h := 0xC0#8, l := 0xC0#8 } [0xC0C0] =
      some ({ z with h := 0xC0#8, l := 0xC0#8, pc := 0x0101#16 }, 2, [0xC0#8]) := by decide
theorem test_L9_ld_hl_n :
    ran [0x36#8, 0x5A#8] [] { z with h := 0xC0#8, l := 0x01#8 } [0xC001] =
      some ({ z with h := 0xC0#8, l := 0x01#8, pc := 0x0102#16 }, 3, [0x5A#8]) := by decide
theorem test_L14_ld_a_nn :
    ran [0xFA#8, 0x34#8, 0xC2#8] [(0xC234, 0x77#8)] z [] =
      some ({ z with a := 0x77#8, pc := 0x0103#16 }, 4, []) := by decide
theorem test_L15_ld_nn_a :
    ran [0xEA#8, 0x34#8, 0xC2#8] [] { z with a := 0x88#8 } [0xC234] =
      some ({ z with a := 0x88#8, pc := 0x0103#16 }, 4, [0x88#8]) := by decide
theorem test_L16_ldh_a_n :
    ran [0xF0#8, 0x80#8] [(0xFF80, 0x12#8)] z [] =
      some ({ z with a := 0x12#8, pc := 0x0102#16 }, 3, []) := by decide
theorem test_L17_ldh_n_a :
    ran [0xE0#8, 0x81#8] [] { z with a := 0x34#8 } [0xFF81] =
      some ({ z with a := 0x34#8, pc := 0x0102#16 }, 3, [0x34#8]) := by decide
theorem test_L18_ldh_a_c :
    ran [0xF2#8] [(0xFF82, 0x56#8)] { z with c := 0x82#8 } [] =
      some ({ z with c := 0x82#8, a := 0x56#8, pc := 0x0101#16 }, 2, []) := by decide
theorem test_L19_ldh_c_a :
    ran [0xE2#8] [] { z with a := 0x78#8, c := 0x83#8 } [0xFF83] =
      some ({ z with a := 0x78#8, c := 0x83#8, pc := 0x0101#16 }, 2, [0x78#8]) := by decide
theorem test_L20_ld_a_hl_inc :
    ran [0x2A#8] [(0xC0FF, 0x9A#8)] { z with h := 0xC0#8, l := 0xFF#8 } [] =
      some ({ z with h := 0xC1#8, l := 0x00#8, a := 0x9A#8, pc := 0x0101#16 },
        2, []) := by decide
theorem test_L21_ld_a_hl_dec :
    ran [0x3A#8] [(0xC100, 0xBC#8)] { z with h := 0xC1#8 } [] =
      some ({ z with h := 0xC0#8, a := 0xBC#8, l := 0xFF#8, pc := 0x0101#16 },
        2, []) := by decide
theorem test_L22_ld_hl_inc_a :
    ran [0x22#8] [] { z with a := 0xDE#8, h := 0xDF#8, l := 0xFF#8 } [0xDFFF] =
      some ({ z with a := 0xDE#8, h := 0xE0#8, l := 0x00#8, pc := 0x0101#16 },
        2, [0xDE#8]) := by decide
theorem test_L23_ld_hl_dec_a :
    ran [0x32#8] [] { z with a := 0xF0#8, h := 0xC0#8 } [0xC000] =
      some ({ z with a := 0xF0#8, h := 0xBF#8, l := 0xFF#8, pc := 0x0101#16 },
        2, [0xF0#8]) := by decide
theorem test_W3_ld_hl_nn :
    ran [0x21#8, 0x00#8, 0x80#8] [] { z with f := 0xF0#8 } [] =
      some ({ z with f := 0xF0#8, h := 0x80#8, pc := 0x0103#16 }, 3, []) := by decide
theorem test_W4_ld_nn_sp :
    ran [0x08#8, 0x00#8, 0xC1#8] [] { z with sp := 0xFFF8#16 } [0xC100, 0xC101] =
      some ({ z with sp := 0xFFF8#16, pc := 0x0103#16 }, 5, [0xF8#8, 0xFF#8]) := by decide
theorem test_W5_ld_sp_hl :
    ran [0xF9#8] [] { z with h := 0xD0#8 } [] =
      some ({ z with h := 0xD0#8, sp := 0xD000#16, pc := 0x0101#16 }, 2, []) := by decide
theorem test_W6_ld_hl_sp_ince :
    ran [0xF8#8, 0x02#8] [] { z with f := 0xF0#8, sp := 0xFFF8#16 } [] =
      some ({ z with sp := 0xFFF8#16, h := 0xFF#8, l := 0xFA#8, pc := 0x0102#16 },
        3, []) := by decide
theorem test_W10_ld_hl_sp_ince :
    ran [0xF8#8, 0x80#8] [] { z with sp := 0x0080#16 } [] =
      some ({ z with sp := 0x0080#16, f := 0x10#8, pc := 0x0102#16 }, 3, []) := by decide
theorem test_W11_push_bc :
    ran [0xC5#8] [] { z with b := 0x12#8, c := 0x34#8, sp := 0xFFFE#16 } [0xFFFC, 0xFFFD] =
      some ({ z with b := 0x12#8, c := 0x34#8, sp := 0xFFFC#16, pc := 0x0101#16 },
        4, [0x34#8, 0x12#8]) := by decide
theorem test_W12_pop_de :
    ran [0xD1#8] [(0xFFFC, 0x34#8), (0xFFFD, 0x12#8)] { z with sp := 0xFFFC#16 } [] =
      some ({ z with sp := 0xFFFE#16, d := 0x12#8, e := 0x34#8, pc := 0x0101#16 },
        3, []) := by decide
theorem test_W14_pop_af :
    ran [0xF1#8] [(0xC000, 0xFF#8), (0xC001, 0x12#8)] { z with sp := 0xC000#16 } [] =
      some ({ z with sp := 0xC002#16, f := 0xF0#8, a := 0x12#8, pc := 0x0101#16 },
        3, []) := by decide
theorem test_W15_push_hl :
    ran [0xE5#8] [] { z with h := 0xAB#8, l := 0xCD#8, sp := 0x0001#16 } [0xFFFF] =
      some ({ z with h := 0xAB#8, l := 0xCD#8, sp := 0xFFFF#16, pc := 0x0101#16 },
        4, [0xCD#8]) := by decide
theorem test_W16_pop_hl :
    ran [0xE1#8] [(0x0000, 0x22#8), (0xFFFF, 0x11#8)]
      { z with sp := 0xFFFF#16, pc := 0xC000#16 } [] =
      some ({ z with sp := 0x0001#16, h := 0x22#8, l := 0x11#8, pc := 0xC001#16 },
        3, []) := by decide
theorem test_A1_add_a_d :
    ran [0x82#8] [] { z with a := 0x3A#8, d := 0xC6#8 } [] =
      some ({ z with a := 0x00#8, d := 0xC6#8, f := 0xB0#8, pc := 0x0101#16 },
        1, []) := by decide
theorem test_A7_adc_a_n :
    ran [0xCE#8, 0x00#8] [] { z with a := 0xFF#8, f := 0x10#8 } [] =
      some ({ z with a := 0x00#8, f := 0xB0#8, pc := 0x0102#16 }, 2, []) := by decide
theorem test_A10_sub_n :
    ran [0xD6#8, 0x0F#8] [] { z with a := 0x3E#8 } [] =
      some ({ z with a := 0x2F#8, f := 0x60#8, pc := 0x0102#16 }, 2, []) := by decide
theorem test_A16_sbc_a_n :
    ran [0xDE#8, 0x0F#8] [] { z with a := 0x10#8, f := 0x10#8 } [] =
      some ({ z with a := 0x00#8, f := 0xE0#8, pc := 0x0102#16 }, 2, []) := by decide
theorem test_A20_and_n :
    ran [0xE6#8, 0x0F#8] [] { z with a := 0x5A#8, f := 0x50#8 } [] =
      some ({ z with a := 0x0A#8, f := 0x20#8, pc := 0x0102#16 }, 2, []) := by decide
theorem test_A22_xor_n :
    ran [0xEE#8, 0xFF#8] [] { z with a := 0x0F#8, f := 0xF0#8 } [] =
      some ({ z with a := 0xF0#8, pc := 0x0102#16 }, 2, []) := by decide
theorem test_A24_or_b :
    ran [0xB0#8] [] { z with f := 0xF0#8 } [] =
      some ({ z with f := 0x80#8, pc := 0x0101#16 }, 1, []) := by decide
theorem test_A26_cp_n :
    ran [0xFE#8, 0x90#8] [] { z with a := 0x3C#8 } [] =
      some ({ z with a := 0x3C#8, f := 0x50#8, pc := 0x0102#16 }, 2, []) := by decide
theorem test_A31_inc_b :
    ran [0x04#8] [] { z with f := 0xC0#8, b := 0x0F#8 } [] =
      some ({ z with f := 0x20#8, b := 0x10#8, pc := 0x0101#16 }, 1, []) := by decide
theorem test_A32_inc_hl :
    ran [0x34#8] [(0xC000, 0xFF#8)] { z with h := 0xC0#8 } [0xC000] =
      some ({ z with h := 0xC0#8, f := 0xA0#8, pc := 0x0101#16 }, 3, [0x00#8]) := by decide
theorem test_A34_dec_b :
    ran [0x05#8] [] z [] =
      some ({ z with f := 0x60#8, b := 0xFF#8, pc := 0x0101#16 }, 1, []) := by decide
theorem test_A36_dec_hl :
    ran [0x35#8] [(0xC000, 0x00#8)] { z with h := 0xC0#8 } [0xC000] =
      some ({ z with h := 0xC0#8, f := 0x60#8, pc := 0x0101#16 }, 3, [0xFF#8]) := by decide
theorem test_A37_daa :
    ran [0x27#8] [] { z with a := 0x9A#8 } [] =
      some ({ z with a := 0x00#8, f := 0x90#8, pc := 0x0101#16 }, 1, []) := by decide
theorem test_A41_daa :
    ran [0x27#8] [] { z with a := 0x4B#8, f := 0x60#8 } [] =
      some ({ z with a := 0x45#8, f := 0x40#8, pc := 0x0101#16 }, 1, []) := by decide
theorem test_A44_cpl :
    ran [0x2F#8] [] { z with a := 0x35#8, f := 0x90#8 } [] =
      some ({ z with a := 0xCA#8, f := 0xF0#8, pc := 0x0101#16 }, 1, []) := by decide
theorem test_A45_scf :
    ran [0x37#8] [] { z with f := 0xE0#8 } [] =
      some ({ z with f := 0x90#8, pc := 0x0101#16 }, 1, []) := by decide
theorem test_A46_ccf :
    ran [0x3F#8] [] { z with f := 0xF0#8 } [] =
      some ({ z with f := 0x80#8, pc := 0x0101#16 }, 1, []) := by decide
theorem test_X1_add_hl_bc :
    ran [0x09#8] [] { z with f := 0x80#8, b := 0x06#8, c := 0x05#8, h := 0x8A#8, l := 0x23#8 } [] =
      some ({ z with f := 0xA0#8, b := 0x06#8, c := 0x05#8, h := 0x90#8, l := 0x28#8,
                     pc := 0x0101#16 },
        2, []) := by decide
theorem test_X4_add_hl_de :
    ran [0x19#8] [] { z with e := 0x01#8, h := 0x0F#8, l := 0xFF#8 } [] =
      some ({ z with e := 0x01#8, h := 0x10#8, l := 0x00#8, f := 0x20#8, pc := 0x0101#16 },
        2, []) := by decide
theorem test_X5_inc_bc :
    ran [0x03#8] [] { z with f := 0xF0#8, b := 0xFF#8, c := 0xFF#8 } [] =
      some ({ z with f := 0xF0#8, b := 0x00#8, c := 0x00#8, pc := 0x0101#16 },
        2, []) := by decide
theorem test_X9_dec_de :
    ran [0x1B#8] [] { z with f := 0x50#8, d := 0x01#8 } [] =
      some ({ z with f := 0x50#8, d := 0x00#8, e := 0xFF#8, pc := 0x0101#16 },
        2, []) := by decide
theorem test_X10_add_sp_e :
    ran [0xE8#8, 0x02#8] [] { z with f := 0xF0#8, sp := 0xFFF8#16 } [] =
      some ({ z with sp := 0xFFFA#16, pc := 0x0102#16 }, 4, []) := by decide
theorem test_X13_add_sp_e :
    ran [0xE8#8, 0x7F#8] [] { z with sp := 0x0081#16 } [] =
      some ({ z with sp := 0x0100#16, f := 0x30#8, pc := 0x0102#16 }, 4, []) := by decide
theorem test_B2_rlca :
    ran [0x07#8] [] { z with f := 0xF0#8 } [] =
      some ({ z with pc := 0x0101#16 }, 1, []) := by decide
theorem test_B3_rrca :
    ran [0x0F#8] [] { z with a := 0x3B#8 } [] =
      some ({ z with a := 0x9D#8, f := 0x10#8, pc := 0x0101#16 }, 1, []) := by decide
theorem test_B4_rla :
    ran [0x17#8] [] { z with a := 0x95#8, f := 0x10#8 } [] =
      some ({ z with a := 0x2B#8, f := 0x10#8, pc := 0x0101#16 }, 1, []) := by decide
theorem test_B7_rra :
    ran [0x1F#8] [] { z with f := 0x10#8 } [] =
      some ({ z with a := 0x80#8, pc := 0x0101#16 }, 1, []) := by decide
theorem test_B8_rlc_b :
    ran [0xCB#8, 0x00#8] [] { z with b := 0x85#8 } [] =
      some ({ z with b := 0x0B#8, f := 0x10#8, pc := 0x0102#16 }, 2, []) := by decide
theorem test_B11_rrc_c :
    ran [0xCB#8, 0x09#8] [] { z with c := 0x01#8 } [] =
      some ({ z with c := 0x80#8, f := 0x10#8, pc := 0x0102#16 }, 2, []) := by decide
theorem test_B14_rl_d :
    ran [0xCB#8, 0x12#8] [] { z with f := 0x10#8, d := 0x11#8 } [] =
      some ({ z with d := 0x23#8, pc := 0x0102#16 }, 2, []) := by decide
theorem test_B16_rr_hl :
    ran [0xCB#8, 0x1E#8] [(0xC000, 0x8A#8)] { z with f := 0x10#8, h := 0xC0#8 } [0xC000] =
      some ({ z with h := 0xC0#8, pc := 0x0102#16 }, 4, [0xC5#8]) := by decide
theorem test_B19_sra_a :
    ran [0xCB#8, 0x2F#8] [] { z with a := 0x8A#8 } [] =
      some ({ z with a := 0xC5#8, pc := 0x0102#16 }, 2, []) := by decide
theorem test_B21_swap_a :
    ran [0xCB#8, 0x37#8] [] { z with a := 0xF0#8, f := 0xF0#8 } [] =
      some ({ z with a := 0x0F#8, pc := 0x0102#16 }, 2, []) := by decide
theorem test_B25_srl_hl :
    ran [0xCB#8, 0x3E#8] [(0xC000, 0xFF#8)] { z with h := 0xC0#8 } [0xC000] =
      some ({ z with h := 0xC0#8, f := 0x10#8, pc := 0x0102#16 }, 4, [0x7F#8]) := by decide
theorem test_B26_bit_7_a :
    ran [0xCB#8, 0x7F#8] [] { z with a := 0x80#8, f := 0x50#8 } [] =
      some ({ z with a := 0x80#8, f := 0x30#8, pc := 0x0102#16 }, 2, []) := by decide
theorem test_B28_bit_0_hl :
    ran [0xCB#8, 0x46#8] [(0xC000, 0xFE#8)] { z with f := 0x10#8, h := 0xC0#8 } [] =
      some ({ z with f := 0xB0#8, h := 0xC0#8, pc := 0x0102#16 }, 3, []) := by decide
theorem test_B32_res_3_hl :
    ran [0xCB#8, 0x9E#8] [(0xC000, 0xFF#8)] { z with h := 0xC0#8 } [0xC000] =
      some ({ z with h := 0xC0#8, pc := 0x0102#16 }, 4, [0xF7#8]) := by decide
theorem test_B34_set_7_l :
    ran [0xCB#8, 0xFD#8] [] { z with l := 0x3B#8 } [] =
      some ({ z with l := 0xBB#8, pc := 0x0102#16 }, 2, []) := by decide
theorem test_J1_jp_nn :
    ran [0xC3#8, 0x00#8, 0x80#8] [] z [] =
      some ({ z with pc := 0x8000#16 }, 4, []) := by decide
theorem test_J2_jp_nz_nn :
    ran [0xC2#8, 0x00#8, 0x80#8] [] { z with f := 0x80#8 } [] =
      some ({ z with f := 0x80#8, pc := 0x0103#16 }, 3, []) := by decide
theorem test_J4_jp_z_nn :
    ran [0xCA#8, 0x00#8, 0x80#8] [] { z with f := 0x80#8 } [] =
      some ({ z with f := 0x80#8, pc := 0x8000#16 }, 4, []) := by decide
theorem test_J7_jp_hl :
    ran [0xE9#8] [] { z with h := 0x80#8 } [] =
      some ({ z with h := 0x80#8, pc := 0x8000#16 }, 1, []) := by decide
theorem test_J10_jr_e :
    ran [0x18#8, 0x80#8] [] z [] =
      some ({ z with pc := 0x0082#16 }, 3, []) := by decide
theorem test_J12_jr_e :
    ran [0x18#8, 0xFD#8] [] { z with pc := 0x0000#16 } [] =
      some ({ z with pc := 0xFFFF#16 }, 3, []) := by decide
theorem test_J13_jr_nz_e :
    ran [0x20#8, 0x05#8] [] z [] =
      some ({ z with pc := 0x0107#16 }, 3, []) := by decide
theorem test_J14_jr_nz_e :
    ran [0x20#8, 0x05#8] [] { z with f := 0x80#8 } [] =
      some ({ z with f := 0x80#8, pc := 0x0102#16 }, 2, []) := by decide
theorem test_J18_call_nn :
    ran [0xCD#8, 0x34#8, 0x12#8] [] { z with sp := 0xFFFE#16 } [0xFFFC, 0xFFFD] =
      some ({ z with sp := 0xFFFC#16, pc := 0x1234#16 }, 6, [0x03#8, 0x01#8]) := by decide
theorem test_J20_call_z_nn :
    ran [0xCC#8, 0x34#8, 0x12#8] [] { z with f := 0x80#8, sp := 0xFFFE#16 } [0xFFFC, 0xFFFD] =
      some ({ z with f := 0x80#8, sp := 0xFFFC#16, pc := 0x1234#16 },
        6, [0x03#8, 0x01#8]) := by decide
theorem test_J22_ret :
    ran [0xC9#8] [(0xFFFC, 0x03#8), (0xFFFD, 0x80#8)] { z with sp := 0xFFFC#16 } [] =
      some ({ z with sp := 0xFFFE#16, pc := 0x8003#16 }, 4, []) := by decide
theorem test_J25_ret_nc :
    ran [0xD0#8] [(0xFFFC, 0x03#8), (0xFFFD, 0x80#8)] { z with sp := 0xFFFC#16 } [] =
      some ({ z with sp := 0xFFFE#16, pc := 0x8003#16 }, 5, []) := by decide
theorem test_J26_ret_c :
    ran [0xD8#8] [(0xFFFC, 0x03#8), (0xFFFD, 0x80#8)] { z with sp := 0xFFFC#16 } [] =
      some ({ z with sp := 0xFFFC#16, pc := 0x0101#16 }, 2, []) := by decide
theorem test_J27_reti :
    ran [0xD9#8] [(0xFFFC, 0x03#8), (0xFFFD, 0x80#8)] { z with sp := 0xFFFC#16 } [] =
      some ({ z with sp := 0xFFFE#16, pc := 0x8003#16 }, 4, []) := by decide
theorem test_J29_rst_0x28 :
    ran [0xEF#8] [] { z with sp := 0xFFFE#16 } [0xFFFC, 0xFFFD] =
      some ({ z with sp := 0xFFFC#16, pc := 0x0028#16 }, 4, [0x01#8, 0x01#8]) := by decide

/-! ### CPU control, fatal conditions, interrupts -/

/-- One step of `s`: the part `f` of the next state. -/
def got {α : Type} (s : State) (f : State → α) : Option α := (nextOf (step s)).map f

theorem test_J27_reti_opens_the_gate :
    got (start [0xD9#8] [(0xFFFC, 0x03#8), (0xFFFD, 0x80#8)] { z with sp := 0xFFFC#16 })
      (fun t => (t.regs.pc, t.ime, t.regs.sp)) = some (0x8003#16, true, 0xFFFE#16) := by decide
theorem test_K2_halt :
    got (start [0x76#8] [] z) (fun t => (t.regs, t.halted, t.lastCycles)) =
      some ({ z with pc := 0x0101#16 }, true, 1) := by decide
theorem test_K4_stop :
    got (start [0x10#8, 0x55#8] [] z) (fun t => (t.regs.pc, t.stopped, t.lastCycles)) =
      some (0x0102#16, true, 1) := by decide
theorem test_K5_di :
    got { start [0xF3#8] [] z with ime := true } (fun t => (t.regs.pc, t.ime)) =
      some (0x0101#16, false) := by decide
theorem test_K6_di_cancels_ei :
    got { start [0xF3#8] [] z with imeSched := true } (fun t => (t.ime, t.imeSched)) =
      some (false, false) := by decide
theorem test_K7_ei :
    got (start [0xFB#8] [] z) (fun t => (t.ime, t.imeSched)) = some (false, true) := by decide
theorem test_K9_nop_promotes :
    got { start [0x00#8] [] z with imeSched := true } (fun t => (t.ime, t.imeSched)) =
      some (true, false) := by decide
theorem test_K10_second_ei_promotes :
    got { start [0xFB#8] [] z with imeSched := true } (fun t => (t.ime, t.imeSched)) =
      some (true, false) := by decide
theorem test_K11_invalid :
    got (start [0xD3#8] [] z) (fun t => (t.fatal, t.regs)) =
      some (some (.invalidOpcode 0x0100#16 0xD3#8), z) := by decide
theorem test_K13_stopped_idles :
    got { start [0x3C#8] [] z with stopped := true } (fun t => (t.regs, t.lastCycles)) =
      some (z, 1) := by decide
theorem test_K14_halted_idles :
    got { start [0x3C#8] [] z with halted := true } (fun t => (t.regs, t.lastCycles)) =
      some (z, 1) := by decide
theorem test_N1_lowest_bit_wins :
    got { start [0x00#8] [] { z with sp := 0xFFFE#16 } with
        ime := true, intEnable := 0x1F#8, intRequest := 0x1F#8 }
      (fun t => (t.regs, t.ime, t.intRequest, [t.peek 0xFFFD, t.peek 0xFFFC])) =
      some ({ z with sp := 0xFFFC#16, pc := 0x0040#16 }, false, 0x1E#8,
        [some 0x01#8, some 0x00#8]) := by decide
theorem test_N3_bit_four_never_arbitrates :
    got { start [0x00#8] [] { z with sp := 0xFFFE#16 } with
        ime := true, intEnable := 0x10#8, intRequest := 0x10#8 }
      (fun t => t.regs.pc) = some 0x0101#16 := by decide
theorem test_N5_wake_without_dispatch :
    got { start [0x3C#8] [] z with halted := true, intEnable := 0x04#8, intRequest := 0x04#8 }
      (fun t => (t.regs, t.halted, t.intRequest)) =
      some ({ z with a := 0x01#8, pc := 0x0101#16 }, false, 0x04#8) := by decide
theorem test_N6_wake_with_dispatch :
    got { start [0x3C#8] [] { z with sp := 0xD000#16 } with
        halted := true, ime := true, intEnable := 0x04#8, intRequest := 0x06#8 }
      (fun t => (t.regs.pc, t.regs.sp, t.halted, t.ime, t.intRequest)) =
      some (0x0050#16, 0xCFFE#16, false, false, 0x02#8) := by decide
theorem test_N9_stopped_outranks_interrupts :
    got { start [0x3C#8] [] z with
        stopped := true, ime := true, intEnable := 0x01#8, intRequest := 0x01#8 }
      (fun t => (t.regs, t.ime, t.intRequest, t.stopped)) = some (z, true, 0x01#8, true) := by
  decide
theorem test_N12_dispatch_clears_the_schedule :
    got { start [0xFB#8] [] { z with sp := 0xFFFE#16 } with
        ime := true, imeSched := true, intEnable := 0x02#8, intRequest := 0x02#8 }
      (fun t => (t.regs.pc, t.ime, t.imeSched)) = some (0x0048#16, false, false) := by decide
theorem test_N13_push_lands_on_the_mask :
    got { start [0x3C#8] [] { z with sp := 0x0001#16, pc := 0xC0AB#16 } with
        ime := true, intEnable := 0x01#8, intRequest := 0x01#8 }
      (fun t => (t.regs.pc, t.regs.sp, t.intEnable, t.intRequest)) =
      some (0x0040#16, 0xFFFF#16, 0xAB#8, 0x00#8) := by decide
theorem test_request_twice :
    ((State.reset.request .timer).request .timer).intRequest = 0x04#8 := by decide
theorem test_fatal_machine_does_not_step :
    nextOf (step { State.reset with fatal := some (.unmappedAddress 0x8000#16) }) = none := by
  decide
theorem test_inputs_arrive_after_the_step :
    got { start [0x00#8] [] z with inputs := [⟨[.timer], false⟩, ⟨[], true⟩] }
      (fun t => (t.intRequest, t.inputs)) = some (0x04#8, [⟨[], true⟩]) := by decide
/-- 70_reset_and_hazards R403: the host wakes a stopped core between two steps. -/
theorem test_stop_wake :
    got { start [0x3C#8] [] z with stopped := true, inputs := [⟨[], true⟩] }
      (fun t => (t.stopped, t.regs)) = some (false, z) := by decide
/-- 46_cpu_control R332: with the optional bug, the byte after `HALT` is executed twice. -/
theorem test_halt_bug :
    (got { start [0x76#8, 0x3C#8] [] z with
        params := { haltBug := true }, intEnable := 0x01#8, intRequest := 0x01#8 } id).bind
      (fun t => got t (fun u => (u.regs.a, u.regs.pc, u.halted))) =
      some (0x01#8, 0x0101#16, false) := by decide

/-- `handle` (95_test_vectors 2.8, the table). -/
theorem test_handle_table :
    ([(0x0F, 0x00), (0x00, 0x0F), (0x0F, 0x0F), (0x0E, 0x0F), (0x0C, 0x0F), (0x08, 0x0F),
      (0xF0, 0xFF), (0xFF, 0xF8)] : List (Byte × Byte)).map (fun x =>
        let h := { State.reset with intEnable := x.1, intRequest := x.2 }.handle true
        (h.1, h.2.intRequest)) =
      [(none, 0x00#8), (none, 0x0F#8), (some 0x0040#16, 0x0E#8), (some 0x0048#16, 0x0D#8),
       (some 0x0050#16, 0x0B#8), (some 0x0058#16, 0x07#8), (none, 0xFF#8),
       (some 0x0058#16, 0xF0#8)] := by decide

/-! ### The cartridge, the bus, build -/

/-- A cartridge whose bank `k`, of those listed, starts with the bytes `k % 256`, `k / 256`. -/
def cartOf (mbc : Mbc) (banks ramLen : Nat) (ks : List Nat) : Cart :=
  { rom := Memory.ofCells (ks.flatMap fun k =>
      [(k * 0x4000, BitVec.ofNat 8 k), (k * 0x4000 + 1, BitVec.ofNat 8 (k / 256))]),
    romBanks := banks, ramLen := ramLen, mbc := mbc, ram := [] }

/-- Accesses in order, `some v` a write of `v`: what the reads return. -/
def played (p : Params) : List (Word × Option Byte) → Cart → List Byte
  | [], _ => []
  | (a, some v) :: xs, c => played p xs ((c.set8 p a v).getD c)
  | (a, none) :: xs, c => (c.get8 p a).toList ++ played p xs c

theorem test_M1_family_a :
    played {} [(0x4000, none), (0x2000, some 0x20#8), (0x4000, some 0x01#8), (0x4000, none),
      (0x2000, some 0x1F#8), (0x4000, some 0x03#8), (0x4000, none), (0x2000, some 0xE0#8),
      (0x4000, none), (0x6000, some 0x01#8), (0x4000, none), (0xA000, some 0x77#8),
      (0x4000, some 0x00#8), (0xA000, none), (0x4000, some 0x03#8), (0xA000, none),
      (0x6000, some 0x00#8), (0xA000, none)]
      (cartOf (.familyA false 0#5 0#2 0#1) 128 0x8000 [0x01, 0x21, 0x61, 0x7F]) =
      [0x01#8, 0x21#8, 0x7F#8, 0x61#8, 0x01#8, 0x00#8, 0x77#8, 0x00#8] := by decide
theorem test_M2_modulo_and_latch :
    played {} [(0x2000, some 0x05#8), (0x4000, none), (0x2000, some 0x04#8), (0x4000, none),
      (0x0000, some 0x0B#8), (0xA000, some 0x5C#8), (0xA000, none)]
      (cartOf (.familyA false 0#5 0#2 0#1) 4 0x2000 [0, 1]) = [0x01#8, 0x00#8, 0x5C#8] := by
  decide
theorem test_M3_gating :
    played { ramGating := true } [(0xA000, some 0x5C#8), (0xA000, none), (0x0000, some 0x0A#8),
      (0xA000, some 0x5C#8), (0x0000, some 0x00#8), (0xA000, none), (0x0000, some 0x0A#8),
      (0xA000, none)]
      (cartOf (.familyA false 0#5 0#2 0#1) 4 0x2000 []) = [0xFF#8, 0xFF#8, 0x5C#8] := by decide
theorem test_M4_family_b :
    played {} [(0x4000, none), (0x2000, some 0x7F#8), (0x4000, none), (0x2000, some 0x80#8),
      (0x4000, none), (0x2000, some 0x20#8), (0x4000, none), (0x4000, some 0x02#8),
      (0xA123, some 0x99#8), (0xA123, none), (0x4000, some 0x08#8), (0xA123, none),
      (0xA123, some 0x11#8), (0x4000, some 0x02#8), (0xA123, none), (0x4000, some 0x04#8),
      (0xA123, none), (0x6000, some 0x01#8), (0x4000, none)]
      (cartOf (.familyB false 0#7 0#8) 128 0x8000 [0x01, 0x20, 0x7F]) =
      [0x01#8, 0x7F#8, 0x01#8, 0x20#8, 0x99#8, 0x00#8, 0x99#8, 0x00#8, 0x20#8] := by decide
theorem test_M5_family_c :
    played {} [(0x4000, none), (0x2000, some 0x00#8), (0x4000, none), (0x3000, some 0x01#8),
      (0x4001, none), (0x2FFF, some 0xFF#8), (0x4000, none), (0x3000, some 0xFE#8),
      (0x4001, none), (0x4000, some 0x0F#8), (0xBFFF, some 0xEE#8), (0x4000, some 0x1F#8),
      (0xBFFF, none), (0x4000, some 0x00#8), (0xBFFF, none)]
      (cartOf (.familyC false 1#8 0#1 0#4) 512 0x20000 [0x01, 0xFF, 0x100, 0x1FF]) =
      [0x01#8, 0x00#8, 0x01#8, 0xFF#8, 0x00#8, 0xEE#8, 0x00#8] := by decide
theorem test_M7_fixed :
    played {} [(0x2000, some 0x00#8), (0x4000, none), (0xA000, some 0x12#8), (0xA000, none)]
      (cartOf .fixed 2 0 [0x01]) = [0x01#8, 0xFF#8] := by decide
theorem test_M8_small_ram_repeats :
    played {} [(0xA000, some 0x12#8), (0xB800, none), (0xA7FF, some 0x34#8), (0xBFFF, none)]
      (cartOf (.familyA false 0#5 0#2 0#1) 4 2048 []) = [0x12#8, 0x34#8] := by decide
/-- 20_memory R126: an MBC2 cell keeps four bits, the upper four read as ones; address bit 8 of a
control write selects the register. -/
theorem test_mbc2 :
    played {} [(0xA000, some 0x5C#8), (0xA200, none), (0x2100, some 0x03#8), (0x4000, none)]
      (cartOf (.mbc2 false 0#4) 16 512 [0x01, 0x03]) = [0xFC#8, 0x03#8] := by decide

/-- What `build` says of an image of `len` bytes with these three header bytes. -/
def built (p : Params) (len : Nat) (type rom ram : Byte) : Fatal ⊕ (Variant × Nat × Nat) :=
  match build { rom := { len := len, cells := [(0x147, type), (0x148, rom), (0x149, ram)] },
                params := p } with
  | .ok s => .inr (s.cart.mbc.variant, s.cart.romBanks, s.cart.ramLen)
  | .error k => .inl k

theorem test_M9_factory :
    built {} 0x8000 0x00 0x00 0x00 = .inr (.fixed, 2, 0) ∧
    built {} 0x10000 0x01 0x01 0x02 = .inr (.familyA, 4, 0x2000) ∧
    built {} 0x200000 0x03 0x06 0x03 = .inr (.familyA, 128, 0x8000) ∧
    built {} 0x8000 0x05 0x00 0x00 = .inl (.unknownCartridgeType 0x05#8) ∧
    built { mbc2Enabled := true } 0x8000 0x05 0x00 0x00 = .inr (.mbc2, 2, 512) ∧
    built {} 0x100000 0x13 0x05 0x03 = .inr (.familyB, 64, 0x8000) ∧
    built {} 0x800000 0x1B 0x08 0x04 = .inr (.familyC, 512, 0x20000) ∧
    built {} 0x8000 0xFC 0x00 0x00 = .inl (.unknownCartridgeType 0xFC#8) := by decide
theorem test_M9_malformed :
    built {} 0x8000 0x01 0x09 0x00 = .inl (.malformedCartridge (.romSizeCode 0x09#8)) ∧
    built {} 0x10000 0x01 0x01 0x06 = .inl (.malformedCartridge (.ramSizeCode 0x06#8)) ∧
    built {} 0x8000 0x01 0x01 0x00 = .inl (.malformedCartridge .imageLength) ∧
    built {} 0x7FFF 0x01 0x01 0x00 = .inl (.malformedCartridge .imageTooShort) := by decide
/-- 70_reset_and_hazards R393: the two profiles. -/
theorem test_post_boot_profiles :
    ([.dmg, .cgb].map fun r =>
        (build ⟨blankImage, none, none, { revision := r }, defaultMap, .postBoot, []⟩).toOption.map
          State.regs) =
      [some ⟨0x01#8, 0xB0#8, 0x00#8, 0x13#8, 0x00#8, 0xD8#8, 0x01#8, 0x4D#8, 0xFFFE#16,
         0x0100#16⟩,
       some ⟨0x11#8, 0x80#8, 0x00#8, 0x00#8, 0xFF#8, 0x56#8, 0x00#8, 0x0D#8, 0xFFFE#16,
         0x0100#16⟩] := by decide

/-- The state after an operation that completes, and its value. -/
def doneOf {α : Type} (x : Eff α) : Option (α × State) :=
  match x with
  | .done v s => some (v, s)
  | .raise _ _ => none

theorem test_D4_get16_wraps :
    (doneOf (busRead16 0xFFFF (start [] [(0x0000, 0x34#8), (0xFFFF, 0x12#8)] z))).map Prod.fst =
      some 0x3412#16 := by decide
theorem test_D5_boot_overlay :
    let s := { start [] [(0x0000, 0xC3#8)] z with
      bootRom := some ⟨256, [(0, 0x31#8)]⟩, bootOverlay := true, slots := builtSlots true }
    (s.peek 0x0000, (doneOf (busWrite 0xFF50 0x01 s)).bind fun x => x.2.peek 0x0000,
      (doneOf (busWrite 0xFF50 0x00 s)).bind fun x => x.2.peek 0x0000) =
      (some 0x31#8, some 0xC3#8, some 0x31#8) := by decide
theorem test_D8_background_transfer :
    (doneOf (busWrite 0xFF55 0xFF { State.reset with params := { revision := .cgb } })).map
      (fun x => x.2.extLog) = some [.scheduleBlockTransfer 0x800] := by decide
theorem test_D9_not_intercepted :
    (doneOf (busWrite 0xFF55 0x00 State.reset)).map (fun x => x.2.extLog) =
      some [.write .graphics 0xFF55 0x00#8] := by decide
theorem test_D10_null_device :
    (doneOf (busWrite 0xFEA0 0x12 State.reset)).bind (fun x => x.2.peek 0xFEA0) =
      some 0xFF#8 := by decide
theorem test_D11_echo :
    (doneOf (busWrite 0xE123 0x77 State.reset)).bind (fun x => x.2.peek 0xC123) =
      some 0x77#8 := by decide
theorem test_D12_unmapped :
    got { start [0x3C#8] [] z with map := [] } (fun t => (t.fatal, t.regs)) =
      some (some (.unmappedAddress 0x0100#16), z) := by decide
/-- 20_memory R100: three bytes of a copy, in ascending order. -/
theorem test_D1_copy_order :
    (doneOf (dmaCopy 0xC100 .spriteTable 3 0
      (start [] [(0xC100, 0x0A#8), (0xC101, 0x0B#8), (0xC102, 0x0C#8)] z))).map
        (fun x => x.2.extLog) =
      some [.spriteTable 2 0x0C#8, .spriteTable 1 0x0B#8, .spriteTable 0 0x0A#8] := by decide
/-- 60_exceptions R370: a round that raises frame-complete ends the frame. -/
theorem test_frame_ends :
    let f := runFrame 5 0x00 { State.reset with inputs := [{}, ⟨[.vblank], false⟩] }
    f = .frameDone { State.reset with
      regs := { z with pc := 0x0002#16 }, intRequest := 0x01#8, extLog := [.markButtons 0x00#8],
      lastCycles := 1 } := by decide
/-- 60_exceptions R371: inside a frame the host does nothing, so a stopped core stays stopped. -/
theorem test_no_wake_inside_a_frame :
    let f := runFrame 5 0x00 { State.reset with
      stopped := true, inputs := [⟨[], true⟩, ⟨[.vblank], true⟩] }
    f = .frameDone { State.reset with
      stopped := true, intRequest := 0x01#8, extLog := [.markButtons 0x00#8],
      lastCycles := 1 } := by decide
/-- 20_memory R68: a read of the boot ROM changes no state, beyond its image too. -/
theorem test_boot_read_changes_nothing :
    let s := { start [] [] z with
      bootRom := some ⟨1, []⟩, bootOverlay := true, slots := builtSlots true }
    busRead 0x0001 s = .done (Config.bootBeyond 0x0001) s := rfl
/-- 70_reset_and_hazards R400 step 7, 20_memory R71: no boot image, no device (log 24). -/
theorem test_no_boot_device :
    ((build { rom := blankImage, map := [⟨.bootRom, 0x0000, 0x0100⟩] }).toOption.bind fun s => nextOf (step s)).map
      State.fatal = some (some (.deviceMissing .bootRom)) := by decide

/-! ### Witnesses: states and operands that meet the hypotheses of the statements -/

/-- `SP` at the bottom of the address space, pointers into RAM, carry set: the state most witnesses
use. -/
def w0 : State := { State.reset with
  regs := ⟨0x19#8, 0x10#8, 0xC0#8, 0x82#8, 0xC1#8, 0x00#8, 0xC3#8, 0x00#8, 0x0000#16, 0x0100#16⟩
  wram := [(0x82, 0x11#8), (0x100, 0x22#8), (0x234, 0x33#8), (0x300, 0x99#8)]
  hram := [(0, 0x55#8), (2, 0x44#8)]
  cart := { Cart.blank with rom := [(0, 0x77#8)] } }

/-- `w0` with one byte of work RAM changed. -/
def w0At (i : Nat) (v : Byte) : State := { w0 with wram := w0.wram.write i v }

/-- An MBC2 cartridge whose seed has high bits, with `RAM_INIT` of its 512 cells. -/
def wMbc2 : BuildInput :=
  ⟨⟨0x8000, [(0x147, 0x06#8)]⟩, some ⟨512, [(511, 0x5C#8)]⟩, none, { mbc2Enabled := true }, defaultMap,
    .cold, []⟩

theorem witness_LaunchStates :
    (∃ s, build ⟨blankImage, none, none, {}, defaultMap, .cold, []⟩ = .ok s) ∧
    (∃ s, build ⟨⟨0x10000, [(0x147, 0x01#8), (0x148, 0x01#8), (0x149, 0x02#8)]⟩,
        some ⟨0x2000, [(5, 0x5C#8)]⟩, some ⟨256, []⟩, {}, defaultMap, .cold, []⟩ = .ok s ∧
      s.cart.mbc = .familyA false 0#5 0#2 0#1) ∧
    (∃ s, build ⟨⟨0x8000, [(0x147, 0x13#8)]⟩, none, none, {}, defaultMap, .cold, []⟩ = .ok s ∧
      s.cart.mbc = .familyB false 0#7 0#8) ∧
    (∃ s, build ⟨⟨0x8000, [(0x147, 0x19#8)]⟩, none, none, {}, defaultMap, .postBoot, []⟩ = .ok s ∧
      s.cart.mbc = .familyC false 1#8 0#1 0#4) ∧
    (∃ s, build ⟨blankImage, none, some ⟨256, []⟩, { revision := .cgb }, defaultMap, .postBoot, []⟩ =
      .ok s) ∧
    (∃ s, build wMbc2 = .ok s ∧ s.cart.mbc = .mbc2 false 0#4 ∧ s.cart.ram.read 511 = 0x0C#8 ∧
      s.cart.inv = true) :=
  ⟨⟨_, rfl⟩, ⟨_, rfl, rfl⟩, ⟨_, rfl, rfl⟩, ⟨_, rfl, rfl⟩, ⟨_, rfl⟩, ⟨_, rfl, rfl, rfl, rfl⟩⟩

theorem witness_BuildChecksTheImage :
    ((⟨0x7FFF, []⟩ : Image).len < 0x8000) ∧
    (0x8000 ≤ (⟨0x8000, [(0x147, 0x04#8)]⟩ : Image).len ∧
      (⟨0x8000, [(0x147, 0x04#8)]⟩ : Image).array.read 0x0147 = 0x04#8 ∧
      ∀ v, ¬TypeNames {} 0x04#8 v) ∧
    ((0x05#8 : Byte).toNat = 0x05 ∧ ({} : Params).mbc2Enabled = false ∧
      [0x04, 0x18].contains (0x18#8 : Byte).toNat = true ∧ 0x1E < (0x1F#8 : Byte).toNat) ∧
    (TypeNames {} 0x1E#8 .familyC ∧ TypeNames {} 0x00#8 .fixed ∧
      TypeNames { mbc2Enabled := true } 0x05#8 .mbc2) ∧
    (8 < (0x09#8 : Byte).toNat ∧ (0x08#8 : Byte).toNat ≤ 8) ∧
    (0x8000 = 2 * 2 ^ (0x00#8 : Byte).toNat * 0x4000 ∧
      0x800000 = 2 * 2 ^ (0x08#8 : Byte).toNat * 0x4000 ∧
      0x8000 ≠ 2 * 2 ^ (0x01#8 : Byte).toNat * 0x4000) ∧
    (5 < (0x06#8 : Byte).toNat ∧ ((0x05#8 : Byte).toNat, 65536) ∈ ramSizeRows ∧
      ((0x00#8 : Byte).toNat, 0) ∈ ramSizeRows) ∧
    ((⟨65535, []⟩ : Image).len ≠ 65536 ∧ (⟨65536, []⟩ : Image).len = 65536) :=
  ⟨by decide, ⟨by decide, by decide, fun v h => by
      have := h.1; cases v <;> revert this <;> decide⟩, by decide,
    ⟨⟨by decide, nofun⟩, ⟨by decide, nofun⟩, by decide, fun _ => rfl⟩, by decide, by decide,
    by decide, by decide⟩

theorem witness_RoutingRaisesTheFatals :
    ({ w0 with map := [⟨.ramBanks, 0xC000, 0x2000⟩] }.getId 0xE000 = none ∧
      intercept w0.params.revision 0xE000 = none) ∧
    ({ w0 with slots := [.cartridge] }.getId 0xC000 = some .ramBanks ∧
      ([.cartridge] : List DeviceId).contains .ramBanks = false ∧
      intercept w0.params.revision 0xC000 = none) := by decide

theorem witness_RegisterFileLaws :
    (0x12#8 : Byte).toNat = (0x12FF#16 : Word).toNat / 256 ∧
    (0xFF#8 : Byte).toNat = (0x12FF#16 : Word).toNat % 256 := by decide

theorem witness_LoadRegisterForms : busRead w0.hl w0 = .done 0x99#8 w0 := by decide

theorem witness_StoreRegisterForms :
    busWrite w0.hl (w0.getReg .h) w0 = .done () (w0At 0x300 0xC3#8) ∧
    busWrite w0.hl 0x5A#8 w0 = .done () (w0At 0x300 0x5A#8) := ⟨rfl, rfl⟩

theorem witness_LoadAccumulatorForms :
    busRead w0.bc w0 = .done 0x11#8 w0 ∧ busRead w0.de w0 = .done 0x22#8 w0 ∧
    busRead 0xC234 w0 = .done 0x33#8 w0 ∧
    busRead (BitVec.ofNat 16 (0xFF00 + w0.regs.c.toNat)) w0 = .done 0x44#8 w0 ∧
    busRead (BitVec.ofNat 16 (0xFF00 + (0x80#8 : Byte).toNat)) w0 = .done 0x55#8 w0 ∧
    busRead 0x8000 w0 = .done (Config.extByte 0 .graphics 0x8000) { w0 with extReads := 1 } :=
  ⟨by decide, by decide, by decide, by decide, by decide, rfl⟩

theorem witness_StoreAccumulatorForms :
    busWrite w0.bc w0.regs.a w0 = .done () (w0At 0x82 0x19#8) ∧
    busWrite w0.de w0.regs.a w0 = .done () (w0At 0x100 0x19#8) ∧
    busWrite 0xC234 w0.regs.a w0 = .done () (w0At 0x234 0x19#8) ∧
    busWrite (BitVec.ofNat 16 (0xFF00 + w0.regs.c.toNat)) w0.regs.a w0 =
      .done () { w0 with hram := w0.hram.write 2 0x19#8 } ∧
    busWrite (BitVec.ofNat 16 (0xFF00 + (0xFF#8 : Byte).toNat)) w0.regs.a w0 =
      .done () { w0 with intEnable := 0x19#8 } := ⟨rfl, rfl, rfl, rfl, rfl⟩

/-- `x[HL]` at the top of the address space. -/
def wTop : State := { w0 with regs := { w0.regs with h := 0xFF#8, l := 0xFF#8 } }

/-- A map with one work-RAM page alone, `x[HL]` outside it. -/
def wBare : State := { wTop with map := [⟨.ramBanks, 0xC000, 0x2000⟩] }

theorem witness_AutoPointerLoads :
    busRead wTop.hl wTop = .done 0x00#8 wTop ∧
    busWrite wTop.hl wTop.regs.a wTop = .done () { wTop with intEnable := 0x19#8 } ∧
    busRead wBare.hl wBare = .raise (.unmappedAddress 0xFFFF) wBare ∧
    busWrite wBare.hl wBare.regs.a wBare = .raise (.unmappedAddress 0xFFFF) wBare := by decide

theorem witness_StackPointerOffsetForms :
    (0xFFFF#16 : Word) = BitVec.ofInt 16 (w0.regs.sp.toNat + (0xFF#8 : Byte).toInt) ∧
    false = decide (w0.regs.sp.toNat % 16 + (0xFF#8 : Byte).toNat % 16 > 15) ∧
    false = decide (w0.regs.sp.toNat % 256 + (0xFF#8 : Byte).toNat > 255) := by decide

/-- What `push16` of `v` makes of `w0`, whose `SP` is 0: `IE`, then the last byte of high RAM. -/
def w0Pushed (v : Word) (s : State) : State :=
  { s with intEnable := hiByte v, hram := s.hram.write 0x7E (loByte v),
           regs := { s.regs with sp := 0xFFFE#16 } }

theorem witness_Pushes (v : Word) : Pushes v w0 (w0Pushed v w0) := ⟨_, rfl, rfl⟩

theorem witness_WordStoreForms :
    (∃ u, busWrite (0xFFFE#16 + 1#16) (hiByte w0.regs.sp) w0 = .done () u ∧
      ∃ w, busWrite 0xFFFE#16 (loByte w0.regs.sp) u = .done () w) ∧
    Pushes (w0.getStackReg .af) w0 (w0Pushed 0x1910#16 w0) :=
  ⟨⟨_, rfl, _, rfl⟩, witness_Pushes 0x1910#16⟩

/-- `SP` at 0xFFFF: the high byte is at 0x0000, the low byte is `IE`. -/
def wPop : State :=
  { w0 with regs := { w0.regs with sp := 0xFFFF#16 }, intEnable := 0xF3#8 }

theorem witness_PopForms : Pops wPop 0x77F3#16 wPop := ⟨0x77#8, 0xF3#8, wPop, by decide, by decide, by decide⟩

theorem witness_PushThenPopRestores :
    (w0At 0 0x01#8).inv = true ∧
    (let s := { w0 with regs := { w0.regs with sp := 0xFFFF#16 } };
      s.inv = true ∧ s.inRam (s.regs.sp - 1#16) ∧ s.inRam (s.regs.sp - 2#16)) ∧
    (let s := { w0 with regs := { w0.regs with sp := 0xC002#16 } };
      s.inv = true ∧ s.inRam (s.regs.sp - 1#16) ∧ s.inRam (s.regs.sp - 2#16)) :=
  ⟨by decide, ⟨by decide, ⟨rfl, rfl⟩, rfl, rfl⟩, by decide, ⟨rfl, rfl⟩, rfl, rfl⟩

theorem witness_AddForms :
    readLoc .atHl w0 = .done 0x99#8 w0 ∧ readLoc (.reg .a) w0 = .done 0x19#8 w0 ∧
    ((AluOp.adc = .add ∧ 1 = 0) ∨ (AluOp.adc = .adc ∧ 1 = w0.flagC.toNat)) ∧
    ((AluOp.add = .add ∧ 0 = 0) ∨ (AluOp.add = .adc ∧ 0 = w0.flagC.toNat)) := by decide

theorem witness_SubtractForms :
    readLoc .atHl w0 = .done 0x99#8 w0 ∧
    ((AluOp.sub = .sub ∧ 0 = 0) ∨ (AluOp.sub = .sbc ∧ 0 = w0.flagC.toNat) ∨
      (AluOp.sub = .cp ∧ 0 = 0)) ∧
    ((AluOp.sbc = .sub ∧ 1 = 0) ∨ (AluOp.sbc = .sbc ∧ 1 = w0.flagC.toNat) ∨
      (AluOp.sbc = .cp ∧ 1 = 0)) ∧
    ((AluOp.cp = .sub ∧ 0 = 0) ∨ (AluOp.cp = .sbc ∧ 0 = w0.flagC.toNat) ∨
      (AluOp.cp = .cp ∧ 0 = 0)) := by decide

theorem witness_LogicForms :
    readLoc .atHl w0 = .done 0x99#8 w0 ∧
    (∃ (f : Byte → Byte → Byte) (h : Bool),
      (AluOp.and = .and ∧ f = (fun a b => a &&& b) ∧ h = true)) ∧
    (∃ (f : Byte → Byte → Byte) (h : Bool),
      (AluOp.xor = .xor ∧ f = (fun a b => a ^^^ b) ∧ h = false)) ∧
    (∃ (f : Byte → Byte → Byte) (h : Bool),
      (AluOp.or = .or ∧ f = (fun a b => a ||| b) ∧ h = false)) :=
  ⟨by decide, ⟨_, _, rfl, rfl, rfl⟩, ⟨_, _, rfl, rfl, rfl⟩, ⟨_, _, rfl, rfl, rfl⟩⟩

/-- The byte at `x[HL]` at its last value before the wrap. -/
def wFF : State := w0At 0x300 0xFF#8

/-- `x[HL]` at the DMA trigger, the one address with an owner: the read completes, the write is fatal. -/
def wDma : State := { w0 with map := [⟨.null, 0xFF46, 1⟩],
                              regs := { w0.regs with h := 0xFF#8, l := 0x46#8 } }

theorem witness_IncrementDecrementForms :
    busRead wFF.hl wFF = .done 0xFF#8 wFF ∧
    (∃ w, busWrite wFF.hl (BitVec.ofNat 8 ((0xFF#8 : Byte).toNat + 1)) wFF = .done () w) ∧
    (∃ w, busWrite wFF.hl (BitVec.ofNat 8 ((0xFF#8 : Byte).toNat + 255)) wFF = .done () w) ∧
    busRead wDma.hl wDma = .done 0xFF#8 wDma ∧
    busWrite wDma.hl (BitVec.ofNat 8 ((0xFF#8 : Byte).toNat + 1)) wDma =
      .raise (.unmappedAddress 0x0000) wDma ∧
    busWrite wDma.hl (BitVec.ofNat 8 ((0xFF#8 : Byte).toNat + 255)) wDma =
      .raise (.unmappedAddress 0xFE00) wDma :=
  ⟨by decide, ⟨_, rfl⟩, ⟨_, rfl⟩, by decide, by decide, by decide⟩

/-- `A` is 0x9A, no flag: the result is 0x100, carry set. With 0x00 and `N H C`: 0x9A. -/
theorem witness_DecimalAdjust :
    (let s := { w0 with regs := { w0.regs with a := 0x9A#8, f := 0x00#8 } };
      (s.flagN = false → (true = true ↔ s.flagC = true ∨ s.regs.a.toNat > 0x99) ∧
        0x100 = s.regs.a.toNat + 0x60 + (if s.flagH = true ∨ s.regs.a.toNat % 16 > 9 then 6 else 0))
      ∧ s.flagN = false) ∧
    (let s := { w0 with regs := { w0.regs with a := 0x00#8, f := 0x70#8 } };
      (s.flagN = true → true = s.flagC ∧
        0x9A + 0x60 + (if s.flagH then 6 else 0) = s.regs.a.toNat + 256) ∧ s.flagN = true) := by
  decide

/-- 99 + 1 with the carry set, and 0 - 99 with it. -/
theorem witness_DecimalArithmetic :
    (let s := { w0 with regs := { w0.regs with a := 0x99#8, b := 0x01#8 } };
      99 < 100 ∧ 1 < 100 ∧ s.regs.a = BitVec.ofNat 8 (99 / 10 * 16 + 99 % 10) ∧
      s.getReg .b = BitVec.ofNat 8 (1 / 10 * 16 + 1 % 10) ∧ 1 = s.flagC.toNat) ∧
    (let s := { w0 with regs := { w0.regs with a := 0x00#8, b := 0x99#8 } };
      s.regs.a = BitVec.ofNat 8 (0 / 10 * 16 + 0 % 10) ∧
      s.getReg .b = BitVec.ofNat 8 (99 / 10 * 16 + 99 % 10) ∧ 1 = s.flagC.toNat) := by decide

theorem witness_PairArithmetic :
    (0x8600#16 : Word).toNat = (w0.hl.toNat + (w0.getPair .hl).toNat) % 65536 ∧
    (0x0001#16 : Word).toNat = ((w0.getPair .sp).toNat + 1) % 65536 ∧
    (0xFFFF#16 : Word).toNat = ((w0.getPair .sp).toNat + 65535) % 65536 := by decide

theorem witness_RotateShiftForms :
    readLoc .atHl w0 = .done 0x99#8 w0 ∧
    (0x33#8 : Byte).toNat = (2 * 0x99 + 0x99 / 128) % 256 ∧
    (0xCC#8 : Byte).toNat = 0x99 / 2 + 128 * (0x99 % 2) ∧
    (0x33#8 : Byte).toNat = (2 * 0x99 + w0.flagC.toNat) % 256 ∧
    (0xCC#8 : Byte).toNat = 0x99 / 2 + 128 * w0.flagC.toNat ∧
    (0x32#8 : Byte).toNat = 2 * 0x99 % 256 ∧
    (0xCC#8 : Byte).toNat = 0x99 / 2 + 0x99 / 128 * 128 ∧
    (0x99#8 : Byte).toNat = 0x99 % 16 * 16 + 0x99 / 16 ∧
    (0x4C#8 : Byte).toNat = 0x99 / 2 ∧
    (∃ w, writeLoc .atHl 0xCC#8 w0 = .done () w) ∧
    (readLoc (.reg .a) w0 = .done 0x19#8 w0 ∧ ∃ w, writeLoc (.reg .a) 0x32#8 w0 = .done () w) :=
  ⟨by decide, by decide, by decide, by decide, by decide, by decide, by decide, by decide,
    by decide, ⟨_, rfl⟩, by decide, ⟨_, rfl⟩⟩

theorem witness_BitTest :
    readLoc .atHl w0 = .done 0x99#8 w0 ∧ readLoc (.reg .a) w0 = .done 0x19#8 w0 := by decide

theorem witness_BitResetAndSet :
    readLoc .atHl w0 = .done 0x99#8 w0 ∧
    (∃ w, writeLoc .atHl 0x19#8 w0 = .done () w) ∧
    (∀ i < 8, (0x19#8 : Byte).getLsbD i = ((0x99#8 : Byte).getLsbD i && i != 7)) ∧
    (∃ w, writeLoc .atHl 0x9B#8 w0 = .done () w) ∧
    (∀ i < 8, (0x9B#8 : Byte).getLsbD i = ((0x99#8 : Byte).getLsbD i || i == 1)) :=
  ⟨by decide, ⟨_, rfl⟩, by decide, ⟨_, rfl⟩, by decide⟩

theorem witness_JumpForms :
    true = (!w0.flagZ) ∧ false = w0.flagZ ∧ false = (!w0.flagC) ∧ true = w0.flagC := by decide

theorem witness_CallForms :
    Pushes (w0.next 3) w0 (w0Pushed 0x0103#16 w0) ∧ w0.cond .c = true ∧ w0.cond .z = false ∧
    Pushes (w0.next 1) w0 (w0Pushed 0x0101#16 w0) ∧
    (∃ w, push16 (wBare.next 3) wBare = .raise (.unmappedAddress 0xFFFF) w) ∧
    (∃ w, push16 (wBare.next 1) wBare = .raise (.unmappedAddress 0xFFFF) w) :=
  ⟨⟨_, rfl, rfl⟩, by decide, by decide, ⟨_, rfl, rfl⟩, ⟨_, rfl⟩, ⟨_, rfl⟩⟩

theorem witness_ReturnForms :
    Pops wPop 0x77F3#16 wPop ∧ wPop.cond .nz = true ∧ wPop.cond .nc = false :=
  ⟨witness_PopForms, by decide, by decide⟩

theorem witness_CpuControlForms : w0.params.haltBug = false := by decide

/-- A push and an `LD (nn),SP`, each with a fatal first and a fatal second write. -/
theorem witness_fatal_words :
    (∃ w, busWrite (wBare.regs.sp - 1#16) (hiByte (wBare.getStackReg .af))
      (wBare.setSp (wBare.regs.sp - 1#16)) = .raise (.unmappedAddress 0xFFFF) w) ∧
    (let s := { w0 with map := [⟨.ramBanks, 0xC000, 0x2000⟩],
                        regs := { w0.regs with sp := 0xC001#16 } };
      ∃ u w, busWrite (s.regs.sp - 1#16) (hiByte (s.getStackReg .bc))
          (s.setSp (s.regs.sp - 1#16)) = .done () u ∧
        busWrite (s.regs.sp - 2#16) (loByte (s.getStackReg .bc)) (u.setSp (s.regs.sp - 2#16)) =
          .raise (.unmappedAddress 0xBFFF) w) ∧
    (∃ w, busWrite (0xDFFF#16 + 1#16) (hiByte wBare.regs.sp) wBare =
      .raise (.unmappedAddress 0xE000) w) ∧
    (∃ u w, busWrite (0xBFFF#16 + 1#16) (hiByte wBare.regs.sp) wBare = .done () u ∧
      busWrite 0xBFFF#16 (loByte wBare.regs.sp) u = .raise (.unmappedAddress 0xBFFF) w) ∧
    (∃ t, exec (.ldAtNnSp 0xDFFF#16) wBare = .next t ∧ t.fatal ≠ none) ∧ wBare.fatal = none :=
  ⟨⟨_, rfl⟩, ⟨_, _, rfl, rfl⟩, ⟨_, rfl⟩, ⟨_, _, rfl, rfl⟩, ⟨_, rfl, by decide⟩, by decide⟩

/-- A push whose second write has no owner: `SP` is two lower, the first byte stored. -/
theorem witness_FatalInstructionKeepsPc :
    let s := { w0 with map := [⟨.ramBanks, 0xC000, 0x2000⟩],
                       regs := { w0.regs with sp := 0xC001#16 } }
    s.fatal = none ∧ ∃ t, exec .pushBc s = .next t ∧ t.fatal = some (.unmappedAddress 0xBFFF#16) ∧
      t.regs.sp = 0xBFFF#16 ∧ t.wram.read 0 = 0xC0#8 ∧
      Instr.storeAddr16 (.ldAAtNn 0x8000#16) s = none ∧
      ∃ u, exec (.ldAAtNn 0x8000#16) s = .next u ∧ u.fatal = some (.unmappedAddress 0x8000#16) :=
  ⟨by decide, _, rfl, by decide, by decide, by decide, by decide, _, rfl, by decide⟩

theorem witness_BusWriteFrame :
    busWrite 0xC000#16 0x01#8 w0 = .done () (w0At 0 0x01#8) ∧ w0.touches 0xC000 0xE001 = false ∧
    w0.touches 0xC000 0xE000 = true ∧
    busWrite 0xFFFF#16 0x01#8 w0 = .done () { w0 with intEnable := 0x01#8 } ∧
    busWrite 0xFF0F#16 0x01#8 w0 = .done () { w0 with intRequest := 0x01#8 } :=
  ⟨rfl, by decide, by decide, rfl, rfl⟩

theorem witness_NoStoreFrame :
    Instr.storeAddr .retZ w0 = none ∧ Instr.storeAddr16 .retZ w0 = none ∧
    Instr.storeAddr16 (.callNcNn 0x1234#16) w0 = none ∧ (∃ t, exec .retZ w0 = .next t) :=
  ⟨rfl, rfl, by decide, ⟨_, rfl⟩⟩

theorem witness_ByteStoreFrame :
    Instr.storeAddr .set7AtHl w0 = some 0xC300#16 ∧ w0.fatal = none ∧
    (∃ t, exec .set7AtHl w0 = .next t ∧ t.fatal = none) ∧
    Instr.storeAddr .ldAtHlIncA wTop = some 0xFFFF#16 ∧
    (∃ t, exec .ldAtHlIncA wTop = .next t ∧ t.fatal = none ∧ t.hl = 0x0000#16) ∧
    w0.touches 0xC300 0xC301 = false ∧ Instr.writesFlags .set7AtHl = false :=
  ⟨by decide, by decide, ⟨_, rfl, rfl⟩, by decide, ⟨_, rfl, rfl, rfl⟩, by decide, by decide⟩

theorem witness_WordStoreFrame :
    Instr.storeAddr16 .pushAf w0 = some 0xFFFE#16 ∧ (∃ t, exec .pushAf w0 = .next t ∧
      t.fatal = none) ∧
    Instr.storeAddr16 (.ldAtNnSp 0xFFFF#16) w0 = some 0xFFFF#16 ∧
    (∃ t, exec (.ldAtNnSp 0xFFFF#16) w0 = .next t ∧ t.fatal = none) ∧
    w0.touches 0xFFFE 0xC000 = false ∧ w0.touches (0xFFFE + 1#16) 0xC000 = false :=
  ⟨by decide, ⟨_, rfl, rfl⟩, by decide, ⟨_, rfl, rfl⟩, by decide, by decide⟩

theorem witness_OnlyTheTableWritesFlags :
    Instr.writesFlags .incBc = false ∧ Instr.writesFlags .popBc = false ∧
    Instr.writesFlags .popAf = true ∧ Instr.writesFlags .set0B = false ∧
    Instr.writesFlags .bit0B = true ∧ ∃ t, exec .incBc w0 = .next t :=
  ⟨by decide, by decide, by decide, by decide, by decide, ⟨_, rfl⟩⟩

theorem witness_OnlyControlInstructionsWriteLatches :
    (∃ t, exec .halt w0 = .next t ∧ t.halted ≠ w0.halted) ∧
    (∃ t, exec (.stop 0#8) w0 = .next t ∧ t.stopped ≠ w0.stopped) ∧
    (∃ t, exec .reti w0 = .next t ∧ t.ime ≠ w0.ime) ∧
    (∃ t, exec .di { w0 with ime := true } = .next t ∧ t.ime ≠ true) ∧
    (∃ t, exec .di { w0 with imeSched := true } = .next t ∧ t.imeSched ≠ true) ∧
    (∃ t, exec .ei w0 = .next t ∧ t.imeSched ≠ w0.imeSched) :=
  ⟨⟨_, rfl, by decide⟩, ⟨_, rfl, by decide⟩, ⟨_, rfl, by decide⟩, ⟨_, rfl, by decide⟩,
    ⟨_, rfl, by decide⟩, ⟨_, rfl, by decide⟩⟩

/-- At the last address, where `pc` wraps. -/
theorem witness_PcAdvancesByTheLength :
    let s := { w0 with regs := { w0.regs with pc := 0xFFFE#16 } }
    s.haltBugArmed = false ∧ Instr.redirects (.ldBcNn 0x1234#16) = false ∧ s.fatal = none ∧
      ∃ t, exec (.ldBcNn 0x1234#16) s = .next t ∧ t.fatal = none ∧ t.regs.pc = 0x0001#16 :=
  ⟨rfl, by decide, rfl, _, rfl, rfl, rfl⟩

theorem witness_CyclesAreTheTables :
    w0.fatal = none ∧
    (∃ t, exec (.callCNn 0x1234#16) w0 = .next t ∧ t.fatal = none ∧ t.lastCycles = 6) ∧
    (∃ t, exec (.callNcNn 0x1234#16) w0 = .next t ∧ t.fatal = none ∧ t.lastCycles = 3) ∧
    Instr.cyclesNotTaken (.callCNn 0x1234#16) ≠ none ∧ Instr.cyclesNotTaken .nop = none :=
  ⟨by decide, ⟨_, rfl, rfl, rfl⟩, ⟨_, rfl, rfl, rfl⟩, by decide, by decide⟩

theorem witness_ConfigurationNeverChanges :
    (∃ t, step w0 = .next t) ∧ w0.bootOverlay = false := ⟨⟨_, rfl⟩, by decide⟩

theorem witness_EveryInstructionCompletesWhenWired :
    w0.wired = true ∧ Instr.wellFormed .set7AtHl = true ∧
    { w0 with bootOverlay := true, slots := builtSlots true }.wired = true := by decide

theorem witness_WiredMachineFailsOnInvalidBytesOnly :
    w0.wired = true ∧ w0.fatal = none ∧
    (start [0xFD#8] [] z).wired = true ∧ (start [0xFD#8] [] z).fatal = none := by decide

theorem witness_StepKeepsTheInvariant : w0.inv = true ∧ ∃ t, step w0 = .next t :=
  ⟨by decide, ⟨_, rfl⟩⟩

/-- An instruction whose window is at the end of the address space. -/
def wFetch : State := start [] [(0xFFFF, 0x3E#8), (0x0000, 0x42#8)] { z with pc := 0xFFFF#16 }

/-- `wFetch` with the first `n` bytes of its window mapped, the instruction high up in work RAM. -/
def wCut (n : Nat) : State :=
  { State.reset with map := [⟨.ramBanks, 0xC000, n⟩], regs := { z with pc := 0xC000#16 } }

/-- A fatal first, second and third read of the window. -/
theorem witness_fatal_fetch :
    ((wCut 0).fetches ∧ (wCut 0).haltBugArmed = false ∧
      ∃ w, busRead 0xC000 (wCut 0) = .raise (.unmappedAddress 0xC000) w) ∧
    ((wCut 1).fetches ∧ busRead 0xC000 (wCut 1) = .done 0#8 (wCut 1) ∧
      ∃ w, busRead (0xC000 + 1#16) (wCut 1) = .raise (.unmappedAddress 0xC001) w) ∧
    ((wCut 2).fetches ∧ busRead 0xC000 (wCut 2) = .done 0#8 (wCut 2) ∧
      busRead (0xC000 + 1#16) (wCut 2) = .done 0#8 (wCut 2) ∧
      ∃ w, busRead (0xC000 + 2#16) (wCut 2) = .raise (.unmappedAddress 0xC002) w) :=
  ⟨⟨⟨rfl, rfl, .inl (by decide)⟩, rfl, _, rfl⟩, ⟨⟨rfl, rfl, .inl (by decide)⟩, rfl, _, rfl⟩,
    ⟨rfl, rfl, .inl (by decide)⟩, rfl, rfl, _, rfl⟩

theorem witness_StepRunsTheDecodedInstruction :
    wFetch.fetches ∧ wFetch.FetchedAs 0x3E#8 0x42#8 0x00#8 wFetch ∧
    (∃ t, exec (decode 0x3E#8 0x42#8 0x00#8) wFetch = .next t) ∧
    (let s := { wFetch with halted := true, intRequest := 0x02#8 };
      s.fetches ∧ s.FetchedAs 0x3E#8 0x42#8 0x00#8 { s with halted := false }) :=
  ⟨⟨rfl, rfl, .inl (by decide)⟩, ⟨rfl, _, _, rfl, rfl, rfl⟩, ⟨_, rfl⟩,
    ⟨rfl, rfl, .inr (by decide)⟩, rfl, _, _, rfl, rfl, rfl⟩

theorem witness_StepWithoutAnInstruction :
    ({ w0 with fatal := some (.unmappedAddress 0x0000#16) }.fatal =
      some (.unmappedAddress 0x0000#16)) ∧
    ({ w0 with stopped := true }.fatal = none ∧ { w0 with stopped := true }.stopped = true) ∧
    (let s := { w0 with halted := true };
      s.fatal = none ∧ s.stopped = false ∧ s.pending = none ∧ s.halted = true) := by decide

/-- A dispatch whose push lands on `IE` and on high RAM. -/
def wInt : State := { w0 with ime := true, intEnable := 0x08#8, intRequest := 0x0F#8 }

/-- `wInt` after the first lines of the dispatch. -/
def wEnter : State := { wInt with intRequest := 0x07#8, ime := false }

theorem witness_InterruptDispatch :
    wInt.fatal = none ∧ wInt.stopped = false ∧ wInt.ime = true ∧ wInt.pending = some .serial ∧
    wEnter = { wInt with intRequest := wInt.intRequest &&& ~~~ (1#8 <<< Source.serial.bit),
                         ime := false, imeSched := false, halted := false, haltBugArmed := false } ∧
    Pushes wInt.regs.pc wEnter (w0Pushed 0x0100#16 wEnter) ∧
    (let e := { wEnter with map := [⟨.ramBanks, 0xC000, 0x2000⟩] };
      { wInt with map := [⟨.ramBanks, 0xC000, 0x2000⟩] }.pending = some .serial ∧
      (∃ w, push16 wInt.regs.pc e = .raise (.unmappedAddress 0xFFFF) w) ∧
      ∃ w, busWrite (wInt.regs.sp - 1#16) (hiByte wInt.regs.pc) (e.setSp (wInt.regs.sp - 1#16)) =
        .raise (.unmappedAddress 0xFFFF) w) :=
  ⟨rfl, rfl, rfl, by decide, by decide, ⟨_, rfl, rfl⟩, by decide, ⟨_, rfl⟩, ⟨_, rfl⟩⟩

theorem witness_EnableTakesEffectOneInstructionLater :
    (let s := start [0xFB#8] [] z;
      s.fetches ∧ s.FetchedAs 0xFB#8 0x00#8 0x00#8 s ∧ s.imeSched = false ∧
      decode 0xFB#8 0x00#8 0x00#8 = .ei ∧
      (∃ t, exec .ei s = .next t ∧ t.fatal = none) ∧ ∃ w, step s = .next w) ∧
    (let s := { start [0x00#8] [] z with imeSched := true };
      s.fetches ∧ s.FetchedAs 0x00#8 0x00#8 0x00#8 s ∧ s.imeSched = true ∧
      decode 0x00#8 0x00#8 0x00#8 ≠ .di ∧ ∃ w, step s = .next w) ∧
    (let s := { start [0xF3#8] [] z with imeSched := true };
      s.fetches ∧ s.FetchedAs 0xF3#8 0x00#8 0x00#8 s ∧ decode 0xF3#8 0x00#8 0x00#8 = .di ∧
      ∃ w, step s = .next w) :=
  ⟨⟨⟨rfl, rfl, .inl (by decide)⟩, ⟨rfl, _, _, rfl, rfl, rfl⟩, rfl, rfl, ⟨_, rfl, rfl⟩, ⟨_, rfl⟩⟩,
    ⟨⟨rfl, rfl, .inl (by decide)⟩, ⟨rfl, _, _, rfl, rfl, rfl⟩, rfl, by decide, ⟨_, rfl⟩⟩,
    ⟨rfl, rfl, .inl (by decide)⟩, ⟨rfl, _, _, rfl, rfl, rfl⟩, rfl, ⟨_, rfl⟩⟩

theorem witness_InterruptControllerOperations :
    wInt.pending = some .serial ∧
    { w0 with intEnable := 0x1F#8, intRequest := 0x1F#8 }.pending = some .vblank ∧
    w0.route 0xFFFF#16 = .ok .interruptController ∧
    w0.route 0xFF0F#16 = .ok .interruptController ∧ w0.pending = none ∧
    ({ w0 with map := [⟨.interruptController, 0xFF0E, 3⟩] }.route 0xFF0E#16 =
        .ok .interruptController ∧ intercept w0.params.revision 0xFF0E#16 = none) :=
  ⟨by decide, by decide, rfl, rfl, by decide, rfl, by decide⟩

/-- The first and last echoed addresses, and the ends of high RAM. -/
theorem witness_RamBanksReadBack :
    w0.inv = true ∧ (w0.inRam 0xC000 ∧ w0.inRam 0xE000 ∧ sameRamCell 0xC000 0xE000 = true) ∧
    (w0.inRam 0xDDFF ∧ w0.inRam 0xFDFF ∧ sameRamCell 0xFDFF 0xDDFF = true) ∧
    (w0.inRam 0xDFFF ∧ sameRamCell 0xDFFF 0xDFFF = true) ∧
    (w0.inRam 0xFF80 ∧ sameRamCell 0xFF80 0xFF80 = true) ∧
    (w0.inRam 0xFFFE ∧ sameRamCell 0xFFFE 0xFFFE = true) :=
  ⟨by decide, ⟨⟨rfl, rfl⟩, ⟨rfl, rfl⟩, by decide⟩, ⟨⟨rfl, rfl⟩, ⟨rfl, rfl⟩, by decide⟩,
    ⟨⟨rfl, rfl⟩, by decide⟩, ⟨⟨rfl, rfl⟩, by decide⟩, ⟨rfl, rfl⟩, by decide⟩

theorem witness_BankControlWrites :
    (0x0000#16 : Word).toNat ≤ 0x7FFF ∧ (0x1FFF#16 : Word).toNat ≤ 0x7FFF ∧
    (0x2000#16 : Word).toNat ≤ 0x7FFF ∧ (0x3FFF#16 : Word).toNat ≤ 0x7FFF ∧
    (0x4000#16 : Word).toNat ≤ 0x7FFF ∧ (0x5FFF#16 : Word).toNat ≤ 0x7FFF ∧
    (0x6000#16 : Word).toNat ≤ 0x7FFF ∧ (0x7FFF#16 : Word).toNat ≤ 0x7FFF ∧
    w0.route 0x0000#16 = .ok .cartridge ∧ w0.route 0x7FFF#16 = .ok .cartridge :=
  ⟨by decide, by decide, by decide, by decide, by decide, by decide, by decide, by decide, rfl, rfl⟩

theorem witness_EffectiveBanks :
    (w0.route 0x0000#16 = .ok .cartridge ∧ w0.route 0x3FFF#16 = .ok .cartridge ∧
      w0.route 0x4000#16 = .ok .cartridge ∧ w0.route 0x7FFF#16 = .ok .cartridge) ∧
    2 ≤ 512 ∧ 0x60 = (if (0#1 : BitVec 1) = 0#1 then (3#2 : BitVec 2).toNat * 32 +
      (0#5 : BitVec 5).toNat else (0#5 : BitVec 5).toNat) ∧
    0 = (if (1#1 : BitVec 1) = 0#1 then (3#2 : BitVec 2).toNat * 32 +
      (0#5 : BitVec 5).toNat else (0#5 : BitVec 5).toNat) :=
  ⟨⟨rfl, rfl, rfl, rfl⟩, by decide, by decide, by decide⟩

/-- A machine with the cartridge `c`, gating or not. -/
def wCart (c : Cart) (gating : Bool) : State :=
  { State.reset with cart := c, params := { ramGating := gating } }

/-- One state for each case of the window, at both of its ends. -/
theorem witness_CartridgeRamWindow :
    (let s := wCart (cartOf (.familyB false 0#7 4#8) 4 2048 []) true;
      s.inv = true ∧ s.route 0xA000#16 = .ok .cartridge ∧ s.route 0xBFFF#16 = .ok .cartridge ∧
      ∃ en bank sel, s.cart.mbc = .familyB en bank sel ∧ 3 < sel.toNat) ∧
    (let s := wCart (cartOf .fixed 2 0 []) false;
      s.inv = true ∧ s.route 0xBFFF#16 = .ok .cartridge ∧ s.cart.ramLen = 0) ∧
    (let s := wCart (cartOf (.familyB false 0#7 3#8) 4 2048 []) true;
      s.inv = true ∧ s.cart.ramLen ≠ 0 ∧ s.params.ramGating = true ∧
      s.cart.mbc.latch = some false ∧
      ¬∃ en bank sel, s.cart.mbc = .familyB en bank sel ∧ 3 < sel.toNat) ∧
    (let s := wCart (cartOf (.mbc2 true 0#4) 4 512 []) true;
      s.inv = true ∧ s.cart.ramLen ≠ 0 ∧ s.cart.mbc.latch ≠ some false ∧
      s.cart.mbc.variant = .mbc2 ∧ 511 = ((0xBFFF#16 : Word).toNat - 0xA000) % 512) ∧
    (let s := wCart (cartOf (.familyC true 0#8 0#1 15#4) 4 0x20000 []) true;
      s.inv = true ∧ s.cart.ramLen ≠ 0 ∧ s.cart.mbc.latch ≠ some false ∧
      s.cart.mbc.variant ≠ .mbc2 ∧
      0x1FFFF = (s.cart.mbc.ramBank * 0x2000 + ((0xBFFF#16 : Word).toNat - 0xA000)) %
        s.cart.ramLen) ∧
    (∀ m ∈ [Mbc.familyA false 0#5 0#2 0#1, .familyB false 0#7 3#8, .familyC false 1#8 0#1 0#4],
      (cartOf m 4 2048 []).ram.wf = true ∧ 0 < (cartOf m 4 2048 []).ramLen) ∧
    ((3#8 : Byte).toNat ≤ 3 ∧ 0x2000 ≤ (0x3FFF#16 : Word).toNat ∧
      (0x3FFF#16 : Word).toNat ≤ 0x3FFF ∧ 0xA000 ≤ (0xBFFF#16 : Word).toNat) := by
  refine ⟨⟨by decide, rfl, rfl, _, _, _, rfl, by decide⟩, by decide,
    ⟨by decide, by decide, rfl, rfl, ?_⟩, by decide, by decide, by decide, by decide⟩
  rintro ⟨en, bank, sel, h, h'⟩
  cases h
  exact absurd h' (by decide)

/-- Every address belongs to the null device: every copy reads. -/
def wNull : State :=
  { State.reset with map := [⟨.null, 0, 65536⟩], params := { revision := .cgb } }

theorem wNull_slice (n : Nat) (a : Word) (k : Nat) :
    busSlice a n { wNull with extReads := k } =
      .done (List.replicate n 0xFF#8) { wNull with extReads := k } := by
  induction n generalizing a with
  | zero => rfl
  | succ n ih =>
    have h : busRead a { wNull with extReads := k } = .done 0xFF#8 { wNull with extReads := k } := by
      have hm : mapLookup [⟨.null, 0, 65536⟩] a = some .null := by
        have : covers ⟨.null, 0, 65536⟩ a = true := by unfold covers; simp; omega
        simp [mapLookup, this]
      have hr : State.route { wNull with extReads := k } a = .ok .null := by
        unfold State.route State.getId
        rw [if_neg (fun h => by cases h), show State.map { wNull with extReads := k } = [⟨.null, 0, 65536⟩] from rfl, hm]
        rfl
      unfold busRead
      rw [hr]; rfl
    unfold busSlice
    rw [h, Eff.bind_done, ih, Eff.bind_done]; rfl

/-- The boot ROM's overlay on both revisions. -/
def wBoot (rev : Revision) : State :=
  { State.reset with bootRom := some ⟨0x0100, [(0x00FF, 0x50#8)]⟩, bootOverlay := true,
                     slots := builtSlots true, params := { revision := rev } }

/-- A whole copy, one that ends after its first byte, the two forms of the block transfer, the overlay at
its ends. -/
theorem witness_InterceptedWrites :
    (∃ vs u, busSlice (BitVec.ofNat 16 ((0xFF#8 : Byte).toNat * 256)) 160 wNull = .done vs u) ∧
    (let s := { State.reset with map := [⟨.ramBanks, 0xC100, 1⟩] };
      (∃ vs u, busSlice (BitVec.ofNat 16 ((0xC1#8 : Byte).toNat * 256)) 1 s = .done vs u ∧
        ∃ k w, busRead (BitVec.ofNat 16 ((0xC1#8 : Byte).toNat * 256 + 1)) u = .raise k w)) ∧
    (∀ i < 160, State.reset.peek (BitVec.ofNat 16 ((0xC1#8 : Byte).toNat * 256 + i)) =
      some ((fun _ => 0x00#8) i)) ∧
    (wNull.params.revision = .cgb ∧ 128 ≤ (0x80#8 : Byte).toNat ∧ (0x7F#8 : Byte).toNat < 128 ∧
      ∃ vs u, busSlice (Config.extBlockSource wNull.extReads) 2048
        { wNull with extReads := wNull.extReads + 1 } = .done vs u) ∧
    (let s := { wNull with map := [] };
      ∃ k w, busRead (Config.extBlockSource s.extReads + BitVec.ofNat 16 0)
        { s with extReads := s.extReads + 1 } = .raise k w) ∧
    (State.reset.params.revision = .dmg ∧ State.reset.route 0xFF55#16 = .ok .graphics) ∧
    ((wBoot .dmg).bootOverlay = true ∧ .bootRom ∈ (wBoot .dmg).slots ∧
      (0x00FF#16 : Word).toNat ≤ 0x00FF ∧ (wBoot .cgb).params.revision = .cgb ∧
      0x0200 ≤ (0x08FF#16 : Word).toNat ∧ (0x08FF#16 : Word).toNat ≤ 0x08FF ∧
      (wBoot .cgb).bootRom = some ⟨0x0100, [(0x00FF, 0x50#8)]⟩) ∧
    (State.reset.bootOverlay = false ∧ (wBoot .dmg).params.revision = .dmg ∧
      0x0100 ≤ (0x0100#16 : Word).toNat ∧ 0x0900 ≤ (0x0900#16 : Word).toNat ∧
      (0x01FF#16 : Word).toNat < 0x0200) := by
  refine ⟨⟨_, _, wNull_slice 160 _ 0⟩, ⟨_, _, rfl, _, _, rfl⟩, ?_,
    ⟨rfl, by decide, by decide, _, _, wNull_slice 2048 _ 1⟩, ⟨_, _, rfl⟩, by decide, by decide,
    by decide⟩
  have h : ∀ k < 16, ∀ j < 10, State.reset.peek (BitVec.ofNat 16 (0xC100 + (k * 10 + j))) =
      some 0x00#8 := by decide
  intro i hi
  have := h (i / 10) (by omega) (i % 10) (by omega)
  rwa [show i / 10 * 10 + i % 10 = i by omega] at this

/-- A frame of two rounds with a request and a wake in its schedule; the same of a stopped core; a frame
that ends fatally. -/
theorem witness_TickAndFrames :
    (({ State.reset with fatal := some (.unmappedAddress 0x8000#16) } : State).fatal ≠ none ∧
      State.reset.fatal = none ∧ State.reset.stopped = false) ∧
    (∃ t, runFrame 2 0x01#8 { State.reset with inputs := [⟨[.timer], false⟩, ⟨[.vblank], false⟩] } =
      .frameDone t) ∧
    (∃ k t, runFrame 1 0x00#8 { State.reset with map := [] } = .fatal k t) ∧
    (let s := { State.reset with
        stopped := true, inputs := [⟨[.timer], true⟩, ⟨[.serial, .vblank], false⟩] };
      s.fatal = none ∧ s.stopped = true ∧ .vblank ∈ ((s.inputs.drop 1).headD {}).raised ∧
      ∀ j < 1, .vblank ∉ ((s.inputs.drop j).headD {}).raised) :=
  ⟨by decide, ⟨_, rfl⟩, ⟨_, _, rfl⟩, by decide⟩

end Sys2Proof.Tests
end

section
/-! PROOFS. The register file (10_state R20 to R25): the masked and the packed flag byte as numbers,
a pair and its halves. -/

namespace Sys2Proof.Machine

/-! ### The flag byte as a number -/

/-- Bit `i` of the mask of `F` is set exactly in the high nibble (10_state R24). -/
theorem maskF_mask_bit : ∀ i < 8, (0xF0#8 : Byte).getLsbD i = decide (4 ≤ i) := by decide

/-- A write of `F` keeps the high nibble alone (10_state R24). -/
theorem maskF_eq_byte (v : Byte) : maskF v = byte (v.toNat / 16 * 16) := by
  apply BitVec.eq_of_getLsbD_eq
  intro i hi
  have hshift : (v.toNat / 2 ^ 4 * 2 ^ 4).testBit i = (decide (4 ≤ i) && v.toNat.testBit i) := by
    rw [Nat.testBit_mul_two_pow, Nat.testBit_div_two_pow]
    rcases Nat.lt_or_ge i 4 with h | h
    · simp [Nat.not_le.mpr h]
    · rw [Nat.sub_add_cancel h]
  rw [maskF, BitVec.getLsbD_and, maskF_mask_bit i hi, BitVec.getLsbD_ofNat, decide_eq_true hi,
    Bool.true_and, Bool.and_comm]
  exact hshift.symm

/-- The four flags have the weights of bits 7 to 4 (10_state R25). -/
theorem packFlags_eq_byte : ∀ z n h c : Bool,
    packFlags z n h c = byte (z.toNat * 128 + n.toNat * 64 + h.toNat * 32 + c.toNat * 16) := by
  decide

/-! ### A pair and its halves -/

theorem eq_hiByte {v : Word} {hi : Byte} (h : hi.toNat = v.toNat / 256) : hi = hiByte v :=
  BitVec.eq_of_toNat_eq (h.trans (hiByte_toNat v).symm)

theorem eq_loByte {v : Word} {lo : Byte} (h : lo.toNat = v.toNat % 256) : lo = loByte v :=
  BitVec.eq_of_toNat_eq (h.trans (loByte_toNat v).symm)

/-- Two words are masked half by half (00_scope R9). -/
theorem join_and_join (a b c d : Byte) : join a b &&& join c d = join (a &&& c) (b &&& d) :=
  BitVec.and_append

/-- Masking the low half masks the word (10_state R22, R24). -/
theorem join_maskF (hi lo : Byte) : join hi (maskF lo) = join hi lo &&& 0xFFF0#16 := by
  have hones : hi &&& 0xFF#8 = hi := BitVec.and_allOnes
  calc join hi (maskF lo) = join (hi &&& 0xFF#8) (lo &&& 0xF0#8) := by rw [hones, maskF]
    _ = join hi lo &&& join 0xFF#8 0xF0#8 := (join_and_join _ _ _ _).symm

/-- A pair reads what was written to it (10_state R21, R22). -/
@[simp] theorem State.getPair_setPair_same (s : State) (rr : Reg16) (v : Word) :
    (s.setPair rr v).getPair rr = v := by
  cases rr with
  | sp => rfl
  | bc | de | hl => exact join_hiByte_loByte v

/-- `AF` reads what was written to it without the low nibble (10_state R22, R24). -/
theorem State.getStackReg_setStackReg_af (s : State) (v : Word) :
    (s.setStackReg .af v).getStackReg .af = v &&& 0xFFF0#16 := by
  calc (s.setStackReg .af v).getStackReg .af
      = join (hiByte v) (maskF (loByte v)) := rfl
    _ = v &&& 0xFFF0#16 := by rw [join_maskF, join_hiByte_loByte]

/-! ### Reads and writes of the whole file -/

/-- A register reads what was last written to it; a write leaves the others (10_state R20). -/
theorem State.getReg_setReg (s : State) (r r' : Reg8) (v : Byte) :
    (s.setReg r v).getReg r' = if r' = r then v else s.getReg r' := by
  split
  next h => rw [h, State.getReg_setReg_same]
  next h => exact State.getReg_setReg_other s r r' v h

/-- `setF` writes the high nibble to `F` and nothing else (10_state R24). -/
theorem State.setF_eq (s : State) (v : Byte) :
    s.setF v = { s with regs := { s.regs with f := byte (v.toNat / 16 * 16) } } := by
  rw [State.setF, maskF_eq_byte]

/-- `setFlags` writes the packed flags to `F` and nothing else (10_state R25). -/
theorem State.setFlags_eq (s : State) (z n h c : Bool) :
    s.setFlags z n h c = { s with regs := { s.regs with
      f := byte (z.toNat * 128 + n.toNat * 64 + h.toNat * 32 + c.toNat * 16) } } := by
  rw [State.setFlags, State.setF, maskF_packFlags, packFlags_eq_byte]

/-- Writing a pair is writing its two halves (10_state R22). -/
theorem State.setPair_halves (s : State) (v : Word) :
    s.setPair .bc v = { s with regs := { s.regs with b := hiByte v, c := loByte v } } ∧
    s.setPair .de v = { s with regs := { s.regs with d := hiByte v, e := loByte v } } ∧
    s.setPair .hl v = { s with regs := { s.regs with h := hiByte v, l := loByte v } } ∧
    s.setStackReg .af v = { s with regs := { s.regs with
      a := hiByte v, f := byte ((loByte v).toNat / 16 * 16) } } ∧
    s.setPair .sp v = { s with regs := { s.regs with sp := v } } :=
  ⟨rfl, rfl, rfl, State.setF_eq _ _, rfl⟩

/-- Settles O5: each clause is the law of one operation of the register file. -/
theorem registerFileLaws : Obligations.RegisterFileLaws := by
  refine ⟨State.getReg_setReg, State.getPair_setPair_same, State.getStackReg_setStackReg_af, ?_, ?_,
    State.setFlags_eq, ?_, State.setF_eq⟩
  · intro s v hi lo hhi hlo
    rw [eq_hiByte hhi, eq_loByte hlo]
    exact State.setPair_halves s v
  · exact fun s => ⟨join_toNat _ _, join_toNat _ _, join_toNat _ _, join_toNat _ _⟩
  · exact fun s z n h c => ⟨State.setFlags_flagZ s z n h c, State.setFlags_flagN s z n h c,
      State.setFlags_flagH s z n h c, State.setFlags_flagC s z n h c⟩

end Sys2Proof.Machine
end

section
/-! PROOFS. Routing faults and registrations (20_memory R70, R71; 60_exceptions R361, R363): a fault of
the routing is what the bus access raises, and the later registration owns an address. -/

namespace Sys2Proof.Machine

/-! ### What routing answers, and what the bus makes of it -/

/-- An address without an owner (60_exceptions R361). -/
theorem route_of_getId_none {s : State} {a : Word} (h : s.getId a = none) :
    s.route a = .error (.unmappedAddress a) := by
  rw [State.route, h]

/-- An owner whose slot is empty (60_exceptions R363). -/
theorem route_of_slot_empty {s : State} {a : Word} {d : DeviceId} (h : s.getId a = some d)
    (hd : s.slots.contains d = false) : s.route a = .error (.deviceMissing d) := by
  simp only [State.route, h, hd, Bool.false_eq_true, if_false]

/-- A read is the read of the device that the address routes to (20_memory R60). -/
theorem busRead_of_route {s : State} {a : Word} {d : DeviceId} (h : s.route a = .ok d) :
    busRead a s = deviceGet8 d a s := by
  rw [busRead, h]

/-- A write that is not intercepted is the write of the device that the address routes to
(20_memory R61). -/
theorem busWrite_of_route {s : State} {a : Word} {d : DeviceId} (v : Byte)
    (hi : intercept s.params.revision a = none) (h : s.route a = .ok d) :
    busWrite a v s = deviceSet8 d a v s := by
  rw [busWrite, hi, h]

/-- A read raises the fault of its routing and changes nothing. -/
theorem busRead_of_route_error {s : State} {a : Word} {k : Fatal} (h : s.route a = .error k) :
    busRead a s = .raise k s := by
  rw [busRead, h]

/-- A write that is not intercepted raises the fault of its routing and changes nothing. -/
theorem busWrite_of_route_error {s : State} {a : Word} {k : Fatal} (v : Byte)
    (hi : intercept s.params.revision a = none) (h : s.route a = .error k) :
    busWrite a v s = .raise k s := by
  rw [busWrite, hi, h]

/-! ### The map -/

theorem covers_iff (r : Registration) (a : Word) :
    covers r a = true ↔ r.start ≤ a.toNat ∧ a.toNat < r.start + r.length := by
  rw [covers, Bool.and_eq_true, decide_eq_true_iff, decide_eq_true_iff]

/-- The map of one registration is its range. -/
theorem mapLookup_singleton (r : Registration) (a : Word) :
    mapLookup [r] a = if covers r a then some r.dev else none := rfl

/-- The owner by the later registrations; by the earlier ones where those name none
(20_memory R70, D20). -/
theorem mapLookup_append (rs qs : List Registration) (a : Word) :
    mapLookup (rs ++ qs) a = (mapLookup qs a).or (mapLookup rs a) := by
  induction rs with
  | nil => exact (Option.or_none).symm
  | cons r rs ih =>
    rw [List.cons_append, mapLookup, mapLookup, ih]
    cases mapLookup qs a <;> rfl

/-- One more registration takes the addresses of its range and no other (20_memory R70). -/
theorem mapLookup_concat (rs : List Registration) (r : Registration) (a : Word) :
    mapLookup (rs ++ [r]) a =
      if r.start ≤ a.toNat ∧ a.toNat < r.start + r.length then some r.dev else mapLookup rs a := by
  rw [mapLookup_append, mapLookup_singleton]
  simp only [covers_iff]
  split <;> rfl

/-- Settles O4: the bus raises the fault of the routing, and a registration appended to the map goes
before the others. -/
theorem routingRaisesTheFatals : Obligations.RoutingRaisesTheFatals :=
  ⟨fun _ _ h => busRead_of_route_error (route_of_getId_none h),
    fun _ v _ h hi => busWrite_of_route_error v hi (route_of_getId_none h),
    fun _ _ _ h hd => busRead_of_route_error (route_of_slot_empty h hd),
    fun _ v _ _ h hd hi => busWrite_of_route_error v hi (route_of_slot_empty h hd),
    mapLookup_concat⟩

end Sys2Proof.Machine
end

section
/-! PROOFS. The bank controllers (20_memory R115 to R127): what a control write stores, the effective
banks, and the accesses of the ROM area on the bus. -/

namespace Sys2Proof.Machine

/-! ### Bit fields as numbers -/

/-- The low `k` bits of a word, masked, as a number. -/
theorem toNat_and_low {w : Nat} (v : BitVec w) {k : Nat} (hk : k ≤ w) :
    (v &&& BitVec.ofNat w (2 ^ k - 1)).toNat = v.toNat % 2 ^ k := by
  have hlt : 2 ^ k - 1 < 2 ^ w :=
    lt_of_lt_of_le (Nat.sub_lt (Nat.two_pow_pos k) Nat.one_pos) (Nat.pow_le_pow_right Nat.two_pos hk)
  rw [BitVec.toNat_and, BitVec.toNat_ofNat, Nat.mod_eq_of_lt hlt, Nat.and_two_pow_sub_one_eq_mod]

/-- The RAM is enabled by the bytes with the low nibble 0xA (20_memory R118). -/
theorem enables_eq (v : Byte) : enables v = decide (v.toNat % 16 = 10) := by
  have hlow : (v &&& 0x0F#8).toNat = v.toNat % 16 := toNat_and_low v (k := 4) (by decide)
  rw [enables, Bool.eq_iff_iff, beq_iff_eq, decide_eq_true_iff, ← hlow]
  exact BitVec.toNat_inj.symm

/-- Bit 8 of an address is the low bit of its high byte (20_memory R126). -/
theorem getLsbD_eight (a : Word) : a.getLsbD 8 = decide (a.toNat / 256 % 2 = 1) :=
  Nat.testBit_eq_decide_div_mod_eq

/-- The remap of family A: of the seven-bit bank numbers, 0x00, 0x20, 0x40 and 0x60 are those whose low
five bits are zero (20_memory R117). -/
theorem remapped_iff {k : Nat} (hk : k < 128) :
    (k = 0x00 ∨ k = 0x20 ∨ k = 0x40 ∨ k = 0x60) ↔ k % 32 = 0 := by omega

/-- A bank register of 0 reads as 1 (20_memory R121, R126). -/
theorem zero_reads_as_one {w : Nat} (bank : BitVec w) :
    (if bank == 0#w then 1 else bank.toNat) = max bank.toNat 1 := by
  split
  next h => rw [beq_iff_eq.mp h]; rfl
  next h =>
    have hne : bank.toNat ≠ 0 := fun h0 => h (beq_iff_eq.mpr (BitVec.toNat_inj.mp h0))
    exact (max_eq_left (Nat.one_le_iff_ne_zero.mpr hne)).symm

/-! ### What a control write stores -/

section control
variable (a : Word) (v : Byte) (en : Bool)

/-- Family A: a register for each window of 0x2000 addresses (20_memory R118). -/
theorem Mbc.control_familyA (lo : BitVec 5) (hi : BitVec 2) (mode : BitVec 1) :
    (Mbc.familyA en lo hi mode).control a v =
      match a.toNat / 0x2000 with
      | 0 => .familyA (decide (v.toNat % 16 = 10)) lo hi mode
      | 1 => .familyA en (BitVec.ofNat 5 v.toNat) hi mode
      | 2 => .familyA en lo (BitVec.ofNat 2 v.toNat) mode
      | _ => .familyA en lo hi (BitVec.ofNat 1 v.toNat) := by
  simp only [Mbc.control, enables_eq, BitVec.ofNat_toNat]
  match hq : a.toNat / 0x2000 with
  | 0 => exact if_pos (by omega)
  | 1 => rw [if_neg (by omega)]; exact if_pos (by omega)
  | 2 => rw [if_neg (by omega), if_neg (by omega)]; exact if_pos (by omega)
  | n + 3 => rw [if_neg (by omega), if_neg (by omega)]; exact if_neg (by omega)

/-- Family B: no register behind the last window (20_memory R120). -/
theorem Mbc.control_familyB (bank : BitVec 7) (sel : BitVec 8) :
    (Mbc.familyB en bank sel).control a v =
      match a.toNat / 0x2000 with
      | 0 => .familyB (decide (v.toNat % 16 = 10)) bank sel
      | 1 => .familyB en (BitVec.ofNat 7 v.toNat) sel
      | 2 => .familyB en bank v
      | _ => .familyB en bank sel := by
  simp only [Mbc.control, enables_eq, BitVec.ofNat_toNat]
  match hq : a.toNat / 0x2000 with
  | 0 => exact if_pos (by omega)
  | 1 => rw [if_neg (by omega)]; exact if_pos (by omega)
  | 2 => rw [if_neg (by omega), if_neg (by omega)]; exact if_pos (by omega)
  | n + 3 => rw [if_neg (by omega), if_neg (by omega)]; exact if_neg (by omega)

/-- Family C: the second window is halved between the two bank registers (20_memory R124). -/
theorem Mbc.control_familyC (lo : BitVec 8) (hi : BitVec 1) (ram : BitVec 4) :
    (Mbc.familyC en lo hi ram).control a v =
      match a.toNat / 0x1000 with
      | 0 | 1 => .familyC (decide (v.toNat % 16 = 10)) lo hi ram
      | 2 => .familyC en v hi ram
      | 3 => .familyC en lo (BitVec.ofNat 1 v.toNat) ram
      | 4 | 5 => .familyC en lo hi (BitVec.ofNat 4 v.toNat)
      | _ => .familyC en lo hi ram := by
  simp only [Mbc.control, enables_eq, BitVec.ofNat_toNat]
  match hq : a.toNat / 0x1000 with
  | 0 | 1 => exact if_pos (by omega)
  | 2 => rw [if_neg (by omega)]; exact if_pos (by omega)
  | 3 => rw [if_neg (by omega), if_neg (by omega)]; exact if_pos (by omega)
  | 4 | 5 =>
    rw [if_neg (by omega), if_neg (by omega), if_neg (by omega)]; exact if_pos (by omega)
  | n + 6 => rw [if_neg (by omega), if_neg (by omega), if_neg (by omega)]; exact if_neg (by omega)

/-- MBC2: bit 8 of the address chooses the register (20_memory R126). -/
theorem Mbc.control_mbc2 (bank : BitVec 4) :
    (Mbc.mbc2 en bank).control a v =
      if a.toNat ≤ 0x3FFF then
        (if a.toNat / 256 % 2 = 1 then .mbc2 en (BitVec.ofNat 4 v.toNat)
          else .mbc2 (decide (v.toNat % 16 = 10)) bank)
      else .mbc2 en bank := by
  simp only [Mbc.control, enables_eq, BitVec.ofNat_toNat, getLsbD_eight, decide_eq_true_iff]

end control

/-! ### The effective banks -/

/-- Family A (20_memory R117). -/
theorem Mbc.romBank_familyA (en : Bool) (lo : BitVec 5) (hi : BitVec 2) (mode : BitVec 1) {sel : Nat}
    (n : Nat) (hsel : sel = if mode = 0#1 then hi.toNat * 32 + lo.toNat else lo.toNat) :
    (Mbc.familyA en lo hi mode).romBank n = (if sel % 32 = 0 then sel + 1 else sel) % n := by
  have hlt : sel < 128 := by
    have := lo.isLt
    have := hi.isLt
    split at hsel <;> omega
  simp only [Mbc.romBank, beq_iff_eq, ← hsel, remapped_iff hlt]

/-- Family B (20_memory R121). -/
theorem Mbc.romBank_familyB (en : Bool) (bank : BitVec 7) (sel : BitVec 8) (n : Nat) :
    (Mbc.familyB en bank sel).romBank n = max bank.toNat 1 % n := by
  rw [Mbc.romBank, zero_reads_as_one]

/-- MBC2 (20_memory R126). -/
theorem Mbc.romBank_mbc2 (en : Bool) (bank : BitVec 4) (n : Nat) :
    (Mbc.mbc2 en bank).romBank n = max bank.toNat 1 % n := by
  rw [Mbc.romBank, zero_reads_as_one]

/-- The RAM bank of family A is that of mode 1 (20_memory R117). -/
theorem Mbc.ramBank_familyA (en : Bool) (lo : BitVec 5) (hi : BitVec 2) (mode : BitVec 1) :
    (Mbc.familyA en lo hi mode).ramBank = if mode = 1#1 then hi.toNat else 0 := by
  simp only [Mbc.ramBank, beq_iff_eq]

/-- The RAM bank of family B is the low two bits of its selector (20_memory R121). -/
theorem Mbc.ramBank_familyB (en : Bool) (bank : BitVec 7) (sel : BitVec 8) :
    (Mbc.familyB en bank sel).ramBank = sel.toNat % 4 :=
  toNat_and_low sel (k := 2) (by decide)

/-- Every controller selects a bank of the image, which has two or more (20_memory R113). -/
theorem Mbc.romBank_lt (m : Mbc) {n : Nat} (hn : 2 ≤ n) : m.romBank n < n := by
  cases m with
  | fixed => exact hn
  | familyA | familyB | familyC | mbc2 => exact Nat.mod_lt _ (by omega)

/-- At reset every controller selects bank 1 (10_state R37). -/
theorem Variant.reset_romBank (v : Variant) {n : Nat} (hn : 2 ≤ n) : v.reset.romBank n = 1 := by
  cases v with
  | fixed => rfl
  | familyA | familyB | familyC | mbc2 => exact Nat.mod_eq_of_lt hn

/-! ### The ROM area on the bus -/

/-- The intercepted writes lie above the ROM area (20_memory R61). -/
theorem intercept_romArea (rev : Revision) {a : Word} (h : a.toNat ≤ 0x7FFF) :
    intercept rev a = none := by
  have hne {b : Word} (hb : 0x7FFF < b.toNat) : a ≠ b := fun e => by subst e; omega
  rw [intercept, if_neg (hne (by decide)), if_neg fun hc => hne (by decide) hc.1,
    if_neg (hne (by decide))]

/-- A read of the ROM area is a byte of the image, without a side effect (20_memory R115, R127). -/
theorem busRead_romArea {s : State} {a : Word} (hr : s.route a = .ok .cartridge)
    (h : a.toNat ≤ 0x7FFF) : busRead a s = .done (s.cart.rom.read (s.cart.romOffset a)) s := by
  have hin : inRomArea a = true := decide_eq_true h
  rw [busRead_of_route hr, deviceGet8, Cart.get8, if_pos hin]

/-- A write to the ROM area is a control write (20_memory R115, R136). -/
theorem busWrite_romArea {s : State} {a : Word} (v : Byte) (hr : s.route a = .ok .cartridge)
    (h : a.toNat ≤ 0x7FFF) :
    busWrite a v s = .done () { s with cart := { s.cart with mbc := s.cart.mbc.control a v } } := by
  have hin : inRomArea a = true := decide_eq_true h
  rw [busWrite_of_route v (intercept_romArea _ h) hr, deviceSet8, Cart.set8, if_pos hin]

/-- The first 0x4000 addresses are bank 0 (20_memory R115). -/
theorem Cart.romOffset_low (c : Cart) {a : Word} (h : a.toNat ≤ 0x3FFF) :
    c.romOffset a = a.toNat := if_pos h

/-- The next 0x4000 addresses are the selected bank (20_memory R115). -/
theorem Cart.romOffset_high (c : Cart) {a : Word} (h : 0x4000 ≤ a.toNat) :
    c.romOffset a = c.mbc.romBank c.romBanks * 0x4000 + (a.toNat - 0x4000) :=
  if_neg (by omega)

/-- Settles O58: the windows of each controller, and the control write on the bus. -/
theorem bankControlWrites : Obligations.BankControlWrites := fun a v en ha =>
  ⟨fun _ hr => busWrite_romArea v hr ha, rfl, Mbc.control_familyA a v en, Mbc.control_familyB a v en,
    Mbc.control_familyC a v en, Mbc.control_mbc2 a v en⟩

/-- Settles O59: the banks of each controller, and the image offset behind a read of the ROM area. -/
theorem effectiveBanks : Obligations.EffectiveBanks := by
  refine ⟨fun s a hr => ⟨fun hlow => ?_, fun hlo hhi => ?_⟩, fun m _ hn => m.romBank_lt hn,
    fun _ => ⟨rfl, rfl⟩, fun en lo hi mode _ n hsel => ⟨Mbc.romBank_familyA en lo hi mode n hsel,
      Mbc.ramBank_familyA en lo hi mode⟩,
    fun en bank sel n => ⟨Mbc.romBank_familyB en bank sel n, Mbc.ramBank_familyB en bank sel⟩,
    fun _ _ _ _ _ => ⟨rfl, rfl⟩, Mbc.romBank_mbc2, fun v _ hn => v.reset_romBank hn⟩
  · rw [busRead_romArea hr (by omega), s.cart.romOffset_low hlow]
  · rw [busRead_romArea hr hhi, s.cart.romOffset_high hlo]

end Sys2Proof.Machine
end

section
/-! PROOFS. The 8-bit loads (40_load8 R181 to R199): the encodings by register code, and what each
load does when its access completes or is fatal. -/

namespace Sys2Proof.Machine

/-! ### The end of an instruction after an access -/

/-- A register write does not move the following instruction. -/
@[simp] theorem State.setReg_next (s : State) (r : Reg8) (v : Byte) (len : Nat) :
    (s.setReg r v).next len = s.next len :=
  State.next_congr (s := s) (t := s.setReg r v) (s.regs.set_pc r v) rfl len

/-- The register file at the end replaces whatever stood in it. -/
@[simp] theorem State.setReg_ends (s : State) (r : Reg8) (v : Byte) (g : RegFile) (p : Word)
    (n : Nat) : (s.setReg r v).ends g p n = s.ends g p n := rfl

/-- A rule that ends after writing one register (40_load8 R180). -/
theorem State.setReg_finish (s : State) (r : Reg8) (v : Byte) (len n : Nat) :
    (s.setReg r v).finish len n = s.ends (s.regs.set r v) (s.next len) n := by
  rw [State.finish_eq_ends, State.setReg_next, State.setReg_ends, State.setReg_regs]

/-- A rule that ends after writing a pair (40_load8 R180). -/
theorem State.setPair_finish (s : State) (rr : Reg16) (w : Word) (len n : Nat) :
    (s.setPair rr w).finish len n = s.ends (s.setPair rr w).regs (s.next len) n := by
  cases rr <;> rfl

/-- A bus access does not move the following instruction. -/
theorem SameCore.next {s u : State} (h : SameCore s u) (len : Nat) : u.next len = s.next len :=
  State.next_congr (congrArg RegFile.pc h.regs) h.haltBugArmed len

/-- A rule that ends after a bus access. -/
theorem SameCore.finish_eq_ends {s u : State} (h : SameCore s u) (len n : Nat) :
    u.finish len n = u.ends s.regs (s.next len) n := by
  rw [State.finish_eq_ends, h.regs, h.next]

/-- A read that completes changes nothing of the core (20_memory R68). -/
theorem busRead_sameCore {a : Word} {s u : State} {v : Byte} (h : busRead a s = .done v u) :
    SameCore s u := by
  obtain ⟨n, rfl⟩ := busRead_done h
  exact SameCore.of_extReads s n

/-- A fatal read changes nothing. -/
theorem busRead_raise {a : Word} {s u : State} {k : Fatal} (h : busRead a s = .raise k u) :
    u = s := by
  obtain ⟨v, n, hd⟩ | ⟨k', hr⟩ := busRead_cases a s
  · rw [hd] at h; cases h
  · rw [hr] at h; cases h; rfl

/-! ### What each meaning does -/

section meanings
variable {s u : State} {a : Word} {v : Byte} {k : Fatal}

/-- `LD r,(HL)` (40_load8 R183). -/
theorem ldFromHl_of_read (r : Reg8) (h : busRead s.hl s = .done v u) :
    ldFromHl r s = .next (u.ends (s.regs.set r v) (s.next 1) 2) := by
  have hu := busRead_sameCore h
  rw [ldFromHl, h, Eff.andThen_done, State.setReg_finish, hu.regs, hu.next]

/-- `LD (HL),r` (40_load8 R184). -/
theorem ldToHl_of_write {r : Reg8} (h : busWrite s.hl (s.getReg r) s = .done () u) :
    ldToHl r s = .next (u.ends s.regs (s.next 1) 2) := by
  rw [ldToHl, h, Eff.andThen_done, (busWrite_done h).finish_eq_ends]

/-- `LD (HL),n` (40_load8 R185). -/
theorem execLdAtHlN_of_write (h : busWrite s.hl v s = .done () u) :
    execLdAtHlN v s = .next (u.ends s.regs (s.next 2) 3) := by
  rw [execLdAtHlN, h, Eff.andThen_done, (busWrite_done h).finish_eq_ends]

/-- The loads of `A` (40_load8 R186, R187, R190, R192, R194). -/
theorem loadA_of_read (h : busRead a s = .done v u) (len n : Nat) :
    loadA a len n s = .next (u.ends { s.regs with a := v } (s.next len) n) := by
  have hu := busRead_sameCore h
  rw [loadA, h, Eff.andThen_done, State.setReg_finish, hu.regs, hu.next, RegFile.set]

/-- The stores of `A` (40_load8 R188, R189, R191, R193, R195). -/
theorem storeA_of_write (h : busWrite a s.regs.a s = .done () u) (len n : Nat) :
    storeA a len n s = .next (u.ends s.regs (s.next len) n) := by
  rw [storeA, h, Eff.andThen_done, (busWrite_done h).finish_eq_ends]

/-- The pointer moves after the read (40_load8 R196, R197). -/
theorem loadAMovingHl_of_read (d : Word) (h : busRead s.hl s = .done v u) :
    loadAMovingHl d s = .next (u.ends { s.regs with
      a := v, h := hiByte (s.hl + d), l := loByte (s.hl + d) } (s.next 1) 2) := by
  have hu := busRead_sameCore h
  rw [loadAMovingHl, h, Eff.andThen_done, State.setPair_finish, State.setReg_ends, State.setReg_next,
    State.setPair_regs, State.setReg_regs, hu.regs, hu.next, RegFile.set]

/-- A fatal read moves nothing (40_load8 R196, R197). -/
theorem loadAMovingHl_of_raise (d : Word) (h : busRead s.hl s = .raise k u) :
    loadAMovingHl d s = .next { s with fatal := some k } := by
  rw [loadAMovingHl, h, Eff.andThen_raise, busRead_raise h, State.raised]

/-- The pointer moves after the write (40_load8 R198, R199). -/
theorem storeAMovingHl_of_write (d : Word) (h : busWrite s.hl s.regs.a s = .done () u) :
    storeAMovingHl d s = .next (u.ends { s.regs with
      h := hiByte (s.hl + d), l := loByte (s.hl + d) } (s.next 1) 2) := by
  have hu := busWrite_done h
  rw [storeAMovingHl, h, Eff.andThen_done, State.setPair_finish, State.setPair_regs, hu.regs, hu.next]

/-- A fatal write moves nothing (40_load8 R198, R199). -/
theorem storeAMovingHl_of_raise (d : Word) (h : busWrite s.hl s.regs.a s = .raise k u) :
    storeAMovingHl d s = .next { u with fatal := some k } := by
  rw [storeAMovingHl, h, Eff.andThen_raise, State.raised]

end meanings

/-! ### What `exec` does with the loads outside the register families -/

section arms
variable (s : State) (n : Byte) (nn : Word)

theorem exec_ldAtHlN : exec (.ldAtHlN n) s = execLdAtHlN n s := rfl
theorem exec_ldAAtBc : exec .ldAAtBc s = loadA s.bc 1 2 s := rfl
theorem exec_ldAAtDe : exec .ldAAtDe s = loadA s.de 1 2 s := rfl
theorem exec_ldAAtNn : exec (.ldAAtNn nn) s = loadA nn 3 4 s := rfl
theorem exec_ldhAAtC : exec .ldhAAtC s = loadA (zeroPage s.regs.c) 1 2 s := rfl
theorem exec_ldhAAtN : exec (.ldhAAtN n) s = loadA (zeroPage n) 2 3 s := rfl
theorem exec_ldAtBcA : exec .ldAtBcA s = storeA s.bc 1 2 s := rfl
theorem exec_ldAtDeA : exec .ldAtDeA s = storeA s.de 1 2 s := rfl
theorem exec_ldAtNnA : exec (.ldAtNnA nn) s = storeA nn 3 4 s := rfl
theorem exec_ldhAtCA : exec .ldhAtCA s = storeA (zeroPage s.regs.c) 1 2 s := rfl
theorem exec_ldhAtNA : exec (.ldhAtNA n) s = storeA (zeroPage n) 2 3 s := rfl
theorem exec_ldAAtHlInc : exec .ldAAtHlInc s = loadAMovingHl 1#16 s := rfl
theorem exec_ldAAtHlDec : exec .ldAAtHlDec s = loadAMovingHl (-1#16) s := rfl
theorem exec_ldAtHlIncA : exec .ldAtHlIncA s = storeAMovingHl 1#16 s := rfl
theorem exec_ldAtHlDecA : exec .ldAtHlDecA s = storeAMovingHl (-1#16) s := rfl

end arms

/-! ### The encodings -/

/-- The high half of an address as the byte of an encoding (30_encoding R152). -/
theorem hiByte_eq_byte (v : Word) : hiByte v = byte (v.toNat / 256) := by
  rw [← hiByte_toNat, byte, BitVec.ofNat_toNat, BitVec.setWidth_eq]

/-- The low half of an address as the byte of an encoding (30_encoding R152). -/
theorem loByte_eq_byte (v : Word) : loByte v = byte (v.toNat % 256) := by
  rw [← loByte_toNat, byte, BitVec.ofNat_toNat, BitVec.setWidth_eq]

theorem encode_ldReg (r r' : Reg8) :
    encode (.ldReg r r') = [byte (0x40 + 8 * r.code + r'.code)] := by
  cases r <;> cases r' <;> rfl

theorem encode_ldImm (r : Reg8) (n : Byte) : encode (.ldImm r n) = [byte (0x06 + 8 * r.code), n] := by
  cases r <;> rfl

theorem encode_ldFromHl (r : Reg8) : encode (.ldFromHl r) = [byte (0x46 + 8 * r.code)] := by
  cases r <;> rfl

theorem encode_ldToHl (r : Reg8) : encode (.ldToHl r) = [byte (0x70 + r.code)] := by
  cases r <;> rfl

theorem encode_ldAAtNn (nn : Word) :
    encode (.ldAAtNn nn) = [0xFA#8, byte (nn.toNat % 256), byte (nn.toNat / 256)] := by
  show [0xFA#8, loByte nn, hiByte nn] = _
  rw [loByte_eq_byte, hiByte_eq_byte]

theorem encode_ldAtNnA (nn : Word) :
    encode (.ldAtNnA nn) = [0xEA#8, byte (nn.toNat % 256), byte (nn.toNat / 256)] := by
  show [0xEA#8, loByte nn, hiByte nn] = _
  rw [loByte_eq_byte, hiByte_eq_byte]

/-! ### The statements -/

/-- Settles O6: the register written is the source register, the immediate or the byte read. -/
theorem loadRegisterForms : Obligations.LoadRegisterForms := by
  refine ⟨fun r r' n => ⟨encode_ldReg r r', encode_ldImm r n, encode_ldFromHl r⟩,
    fun r r' s => ?_, fun r n s => ?_, fun r s u v h => ?_⟩
  · rw [exec_ldReg, ldReg, State.setReg_finish]
  · rw [exec_ldImm, ldImm, State.setReg_finish]
  · rw [exec_ldFromHl, ldFromHl_of_read r h]

/-- Settles O7: a write that completes is the only effect besides the end of the rule. -/
theorem storeRegisterForms : Obligations.StoreRegisterForms := by
  refine ⟨fun r _ => ⟨encode_ldToHl r, rfl⟩, fun r s u h => ?_, fun n s u h => ?_⟩
  · rw [exec_ldToHl, ldToHl_of_write h]
  · rw [exec_ldAtHlN, execLdAtHlN_of_write h]

/-- Settles O8: each form is `loadA` at its address. -/
theorem loadAccumulatorForms : Obligations.LoadAccumulatorForms := by
  intro s u v n nn
  refine ⟨⟨rfl, rfl, encode_ldAAtNn nn, rfl, rfl⟩, fun h => ?_, fun h => ?_, fun h => ?_,
    fun h => ?_, fun h => ?_⟩
  · rw [exec_ldAAtBc, loadA_of_read h]
  · rw [exec_ldAAtDe, loadA_of_read h]
  · rw [exec_ldAAtNn, loadA_of_read h]
  · rw [exec_ldhAAtC, zeroPage_eq, loadA_of_read h]
  · rw [exec_ldhAAtN, zeroPage_eq, loadA_of_read h]

/-- Settles O9: each form is `storeA` at its address. -/
theorem storeAccumulatorForms : Obligations.StoreAccumulatorForms := by
  intro s u n nn
  refine ⟨⟨rfl, rfl, encode_ldAtNnA nn, rfl, rfl⟩, fun h => ?_, fun h => ?_, fun h => ?_,
    fun h => ?_, fun h => ?_⟩
  · rw [exec_ldAtBcA, storeA_of_write h]
  · rw [exec_ldAtDeA, storeA_of_write h]
  · rw [exec_ldAtNnA, storeA_of_write h]
  · rw [exec_ldhAtCA, zeroPage_eq, storeA_of_write h]
  · rw [exec_ldhAtNA, zeroPage_eq, storeA_of_write h]

/-- Settles O10: moving down is adding -1; the pointer is written after the access alone. -/
theorem autoPointerLoads : Obligations.AutoPointerLoads := by
  refine ⟨⟨rfl, rfl, rfl, rfl⟩, fun s u v k => ⟨fun h => ⟨?_, ?_⟩, fun h => ⟨?_, ?_⟩,
    fun h => ⟨?_, ?_⟩, fun h => ⟨?_, ?_, (busWrite_raise h).2⟩⟩⟩
  · rw [exec_ldAAtHlInc, loadAMovingHl_of_read _ h]
  · rw [exec_ldAAtHlDec, loadAMovingHl_of_read _ h, BitVec.sub_eq_add_neg]
  · rw [exec_ldAAtHlInc, loadAMovingHl_of_raise _ h]
  · rw [exec_ldAAtHlDec, loadAMovingHl_of_raise _ h]
  · rw [exec_ldAtHlIncA, storeAMovingHl_of_write _ h]
  · rw [exec_ldAtHlDecA, storeAMovingHl_of_write _ h, BitVec.sub_eq_add_neg]
  · rw [exec_ldAtHlIncA, storeAMovingHl_of_raise _ h]
  · rw [exec_ldAtHlDecA, storeAMovingHl_of_raise _ h]

end Sys2Proof.Machine
end

section
/-! PROOFS. The 16-bit loads (41_load16 R211 to R216) and `ADD SP,e` (43_alu16 R274): the ends of rules
that write a pair, and what each meaning does when its accesses complete. -/

namespace Sys2Proof.Machine

/-! ### The end of an instruction after the write of a pair -/

section ends
variable (s : State) (w : Word) (len k : Nat)

/-- A write of a pair does not move the following instruction. -/
@[simp] theorem State.setPair_next (rr : Reg16) : (s.setPair rr w).next len = s.next len := by
  cases rr <;> rfl

/-- The register file at the end replaces whatever pair stood in it. -/
@[simp] theorem State.setPair_ends (rr : Reg16) (g : RegFile) (p : Word) :
    (s.setPair rr w).ends g p k = s.ends g p k := by
  cases rr <;> rfl

/-- A write of `SP` does not move the following instruction. -/
@[simp] theorem State.setSp_next : (s.setSp w).next len = s.next len := rfl

/-- The register file at the end replaces whatever `SP` stood in it. -/
@[simp] theorem State.setSp_ends (g : RegFile) (p : Word) : (s.setSp w).ends g p k = s.ends g p k :=
  rfl

/-- A rule that ends after writing a pair and the flags (41_load16 R214, 43_alu16 R270). -/
theorem State.setPair_setFlags_finish (rr : Reg16) (z n h c : Bool) :
    ((s.setPair rr w).setFlags z n h c).finish len k =
      s.ends ((s.setPair rr w).regs.withFlags z n h c) (s.next len) k := by
  rw [setFlags_finish, State.setPair_ends, State.setPair_next]

/-- A rule that ends after writing a stack register (41_load16 R216). -/
theorem State.setStackReg_finish (qq : StackReg) :
    (s.setStackReg qq w).finish len k = s.ends (s.setStackReg qq w).regs (s.next len) k := by
  cases qq <;> rfl

end ends

/-- `POP AF` writes the high nibble of the low byte to `F` (41_load16 R216). -/
theorem State.setStackReg_af_regs (s : State) (v : Word) :
    (s.setStackReg .af v).regs =
      { s.regs with a := hiByte v, f := byte (v.toNat % 256 / 16 * 16) } := by
  rw [← loByte_toNat, ← maskF_eq_byte]
  rfl

/-! ### What each meaning does -/

section meanings
variable {s w : State}

/-- `SP` and a signed offset byte, as a sum of integers (30_encoding R151). -/
theorem State.spPlus_eq (s : State) (e : Byte) :
    s.spPlus e = BitVec.ofInt 16 (s.regs.sp.toNat + e.toInt) :=
  add_sext16 s.regs.sp e

/-- Two bus writes that complete are a word write, the high byte first (20_memory R63). -/
theorem busWrite16_of_writes {a v : Word} {u : State}
    (hhi : busWrite (a + 1#16) (hiByte v) s = .done () u)
    (hlo : busWrite a (loByte v) u = .done () w) : busWrite16 a v s = .done () w := by
  rw [busWrite16, hhi, Eff.bind_done, hlo]

/-- `LD (nn),SP` (41_load16 R212). -/
theorem execLdAtNnSp_of_writes {nn : Word} {u : State}
    (hhi : busWrite (nn + 1#16) (hiByte s.regs.sp) s = .done () u)
    (hlo : busWrite nn (loByte s.regs.sp) u = .done () w) :
    execLdAtNnSp nn s = .next (w.ends s.regs (s.next 3) 5) := by
  have hsame : SameCore s w := (busWrite_done hhi).trans (busWrite_done hlo)
  rw [execLdAtNnSp, busWrite16_of_writes hhi hlo, Eff.andThen_done, hsame.finish_eq_ends]

/-- A rule that ends after a push (41_load16 R210). -/
theorem finish_of_pushes {v : Word} (h : Pushes v s w) (len n : Nat) :
    w.finish len n = w.ends { s.regs with sp := s.regs.sp - 2#16 } (s.next len) n := by
  obtain ⟨hsp, hsame⟩ := pushes_sameButSp h
  rw [hsame.finish_eq_ends, State.setSp_next, State.setSp_regs, hsp]

/-- `PUSH qq` (41_load16 R215). -/
theorem push_of_pushes {qq : StackReg} (h : Pushes (s.getStackReg qq) s w) :
    push qq s = .next (w.ends { s.regs with sp := s.regs.sp - 2#16 } (s.next 1) 4) := by
  rw [push, pushes_push16 h, Eff.andThen_done, finish_of_pushes h]

/-- `POP qq`: `SP` moves, then the stack register is written; the reads leave the registers
(41_load16 R216). -/
theorem pop_of_pops {v : Word} (qq : StackReg) (h : Pops s v w) :
    pop qq s =
      .next (w.ends ((s.setSp (s.regs.sp + 2#16)).setStackReg qq v).regs (s.next 1) 3) := by
  obtain ⟨hpop, n, rfl⟩ := pops_pop16 h
  rw [pop, hpop, Eff.andThen_done, State.setStackReg_finish, State.setSp_ends, State.setSp_next]
  cases qq <;> rfl

end meanings

/-! ### What `exec` does with the instructions outside the register families -/

section arms
variable (s : State) (e : Byte) (nn : Word)

theorem exec_ldSpHl : exec .ldSpHl s = execLdSpHl s := rfl
theorem exec_ldHlSpE : exec (.ldHlSpE e) s = execLdHlSpE e s := rfl
theorem exec_addSpE : exec (.addSpE e) s = execAddSpE e s := rfl
theorem exec_ldAtNnSp : exec (.ldAtNnSp nn) s = execLdAtNnSp nn s := rfl

end arms

/-! ### The encodings -/

/-- The immediate follows the opcode, its low byte first (30_encoding R152). -/
theorem encode_ldPair (rr : Reg16) (nn : Word) :
    encode (.ldPair rr nn) =
      [byte (0x01 + 16 * rr.code), byte (nn.toNat % 256), byte (nn.toNat / 256)] := by
  rw [← loByte_eq_byte, ← hiByte_eq_byte]
  cases rr <;> rfl

theorem encode_ldAtNnSp (nn : Word) :
    encode (.ldAtNnSp nn) = [0x08#8, byte (nn.toNat % 256), byte (nn.toNat / 256)] := by
  rw [← loByte_eq_byte, ← hiByte_eq_byte]
  rfl

theorem encode_push (qq : StackReg) : encode (.push qq) = [byte (0xC5 + 16 * qq.code)] := by
  cases qq <;> rfl

theorem encode_pop (qq : StackReg) : encode (.pop qq) = [byte (0xC1 + 16 * qq.code)] := by
  cases qq <;> rfl

/-! ### The statements -/

/-- Settles O11: the pair written is the immediate, `SP` is `HL`. -/
theorem loadPairForms : Obligations.LoadPairForms := by
  have hpair (rr : Reg16) (nn : Word) (s : State) :
      exec (.ldPair rr nn) s = .next (s.ends (s.setPair rr nn).regs (s.next 3) 3) := by
    rw [exec_ldPair, ldPair, State.setPair_finish]
  refine ⟨encode_ldPair, rfl, fun nn s => ?_, fun s => ?_⟩
  · exact ⟨hpair .bc nn s, hpair .de nn s, hpair .hl nn s, hpair .sp nn s⟩
  · rw [exec_ldSpHl, execLdSpHl, State.finish_eq_ends, State.setSp_ends, State.setSp_next,
      State.setSp_regs]

/-- Settles O12: both forms write the same sum, to `HL` and to `SP`, and the same flags. -/
theorem stackPointerOffsetForms : Obligations.StackPointerOffsetForms := by
  refine ⟨fun e => ⟨rfl, rfl⟩, fun s e r h c hr hh hc => ?_⟩
  have hsum : r = s.spPlus e := hr.trans (s.spPlus_eq e).symm
  have hhalf : h = halfCarrySp s.regs.sp e := hh
  have hcarry : c = carrySp s.regs.sp e := hc
  subst hsum hhalf hcarry
  constructor
  · rw [exec_ldHlSpE, execLdHlSpE, State.setPair_setFlags_finish, State.setPair_regs]
  · rw [exec_addSpE, execAddSpE, setFlags_finish, State.setSp_ends, State.setSp_next,
      State.setSp_regs]

/-- Settles O13: the two writes complete, and the rule ends with `SP` as it was or two lower. -/
theorem wordStoreForms : Obligations.WordStoreForms := by
  refine ⟨encode_ldAtNnSp, encode_push, fun nn s u w hhi hlo => ?_, fun qq s w h => ?_⟩
  · rw [exec_ldAtNnSp, execLdAtNnSp_of_writes hhi hlo]
  · rw [exec_push, push_of_pushes h]

/-- Settles O14: the halves of the popped word go to the pair; `AF` takes the low half masked. -/
theorem popForms : Obligations.PopForms := by
  refine ⟨encode_pop, fun s w v h => ?_⟩
  have hpop (qq : StackReg) : exec (.pop qq) s =
      .next (w.ends ((s.setSp (s.regs.sp + 2#16)).setStackReg qq v).regs (s.next 1) 3) := by
    rw [exec_pop, pop_of_pops qq h]
  refine ⟨hpop .bc, hpop .de, hpop .hl, ?_⟩
  rw [hpop .af, State.setStackReg_af_regs, State.setSp_regs]

end Sys2Proof.Machine
end

section
/-! PROOFS. 8-bit arithmetic and logic (42_alu8 R230 to R246): the results of the operations as numbers,
the rule of the accumulator operations, of a read-modify-write that sets the flags, and of `DAA`. -/

namespace Sys2Proof.Machine

/-! ### The results as numbers -/

/-- A byte made from a number is zero when 256 divides the number. -/
theorem byte_beq_zero (n : Nat) : (byte n == 0#8) = decide (n % 256 = 0) := by
  rw [Bool.beq_eq_decide_eq, decide_eq_decide, ← BitVec.toNat_inj, BitVec.toNat_ofNat]
  rfl

/-- The low nibble of a byte (00_scope R9). -/
theorem and_0x0F_toNat (v : Byte) : (v &&& 0x0F#8).toNat = v.toNat % 16 :=
  Nat.and_two_pow_sub_one_eq_mod v.toNat 4

/-- The sum and its carries; `k` is the incoming carry as a number (42_alu8 R230). -/
theorem add8_eq (a v : Byte) {ci : Bool} {k : Nat} (hk : k = ci.toNat) :
    add8 a v ci =
      { r := byte (a.toNat + v.toNat + k)
        z := decide ((a.toNat + v.toNat + k) % 256 = 0)
        n := false
        h := decide (a.toNat % 16 + v.toNat % 16 + k > 15)
        c := decide (a.toNat + v.toNat + k > 255) } := by
  simp only [hk, add8, byte_beq_zero]

/-- The difference of integers as a byte, through the natural number that is 512 higher. -/
theorem ofInt_sub_sub (a v : Byte) (ci : Bool) :
    BitVec.ofInt 8 ((a.toNat : Int) - v.toNat - ci.toNat) =
      byte (a.toNat + 512 - v.toNat - ci.toNat) := by
  apply BitVec.eq_of_toNat_eq
  have hv := v.isLt
  have hci := ci.toNat_le
  rw [BitVec.toNat_ofInt, BitVec.toNat_ofNat]
  omega

/-- The difference and its borrows; `k` is the incoming carry as a number (42_alu8 R230). -/
theorem sub8_eq (a v : Byte) {ci : Bool} {k : Nat} (hk : k = ci.toNat) :
    sub8 a v ci =
      { r := byte (a.toNat + 512 - v.toNat - k)
        z := decide ((a.toNat + 512 - v.toNat - k) % 256 = 0)
        n := true
        h := decide (a.toNat % 16 < v.toNat % 16 + k)
        c := decide (a.toNat < v.toNat + k) } := by
  simp only [hk, sub8, ofInt_sub_sub, byte_beq_zero]

/-- The increment: the carry out of bit 3 comes from a low nibble of ones (42_alu8 R239). -/
theorem inc8_eq (v : Byte) (c : Bool) :
    inc8 v c =
      { r := byte (v.toNat + 1), z := decide (v = 0xFF#8), n := false,
        h := decide (v.toNat % 16 = 15), c := c } := by
  have hr : v + 1#8 = byte (v.toNat + 1) := by bv_omega
  have hz : byte (v.toNat + 1) = 0#8 ↔ v = 0xFF#8 := by bv_omega
  have hh : v &&& 0x0F#8 = 0x0F#8 ↔ v.toNat % 16 = 15 := by
    rw [← BitVec.toNat_inj, and_0x0F_toNat]; rfl
  simp only [inc8, Bool.beq_eq_decide_eq, hr, hz, hh]

/-- The decrement: the borrow from bit 4 comes from a low nibble of zeros (42_alu8 R241). -/
theorem dec8_eq (v : Byte) (c : Bool) :
    dec8 v c =
      { r := byte (v.toNat + 255), z := decide (v = 0x01#8), n := true,
        h := decide (v.toNat % 16 = 0), c := c } := by
  have hr : v - 1#8 = byte (v.toNat + 255) := by bv_omega
  have hz : byte (v.toNat + 255) = 0#8 ↔ v = 0x01#8 := by bv_omega
  have hh : v &&& 0x0F#8 = 0x00#8 ↔ v.toNat % 16 = 0 := by
    rw [← BitVec.toNat_inj, and_0x0F_toNat]; rfl
  simp only [dec8, Bool.beq_eq_decide_eq, hr, hz, hh]

/-- The complement (42_alu8 R244). -/
theorem xor_0xFF_eq_byte (a : Byte) : a ^^^ 0xFF#8 = byte (255 - a.toNat) := by
  have hnot : a ^^^ 0xFF#8 = ~~~a := BitVec.xor_allOnes
  rw [hnot]
  bv_omega

/-! ### The accumulator operations -/

/-- The register file after an accumulator operation on the value `v`; `CP` leaves `A`
(42_alu8 R231 to R238). -/
def State.aluRegs (s : State) (op : AluOp) (v : Byte) : RegFile :=
  let x := alu8 op s.regs.a v s.flagC
  (s.regs.set .a (if op = .cp then s.regs.a else x.r)).withFlags x.z x.n x.h x.c

/-- The register file from the result of the operation in any form (42_alu8 R230). -/
theorem State.aluRegs_of_alu8 (s : State) {op : AluOp} {v : Byte} {x : AluResult}
    (h : alu8 op s.regs.a v s.flagC = x) :
    s.aluRegs op v =
      (s.regs.set .a (if op = .cp then s.regs.a else x.r)).withFlags x.z x.n x.h x.c := by
  rw [← h, State.aluRegs]

/-- A rule that ends after an accumulator operation (42_alu8 R230). -/
theorem State.alu_finish (s : State) (op : AluOp) (v : Byte) (len k : Nat) :
    (s.alu op v).finish len k = s.ends (s.aluRegs op v) (s.next len) k := by
  cases op with
  | cp => exact setAluFlags_finish s _ len k
  | add | adc | sub | sbc | and | xor | or => exact setAlu_finish s _ len k

/-- An accumulator operation on an operand that is read (42_alu8 R230). -/
theorem aluLoc_of_read {x : Loc} {s u : State} {v : Byte} (op : AluOp)
    (h : readLoc x s = .done v u) :
    aluLoc op x s = .next (u.ends (s.aluRegs op v) (s.next 1) (locCost x 1 2)) := by
  rw [aluLoc, h, Eff.andThen_done, State.alu_finish]
  obtain ⟨n, rfl⟩ := readLoc_done h
  rfl

theorem encode_alu (op : AluOp) (x : Loc) :
    encode (.alu op x) = [byte (0x80 + 8 * op.code + x.code)] := by
  cases op <;> rcases x with (_ | _ | _ | _ | _ | _ | _) | _ <;> rfl

theorem encode_aluImm (op : AluOp) (n : Byte) :
    encode (.aluImm op n) = [byte (0xC6 + 8 * op.code), n] := by
  cases op <;> rfl

/-- The cost of the `(HL)` form, as the statements say it. -/
theorem locCost_eq_ite (x : Loc) (reg atHl : Nat) :
    locCost x reg atHl = if x = .atHl then atHl else reg := by
  cases x <;> rfl

/-- Every accumulator operation, on an operand that is read and on an immediate: what differs between
them is the register file after it (42_alu8 R230). -/
theorem alu_forms (s u : State) (x : Loc) (op : AluOp) (v n : Byte) (after : Byte → RegFile)
    (hafter : ∀ v, s.aluRegs op v = after v) :
    encode (.alu op x) = [byte (0x80 + 8 * op.code + x.code)] ∧
    encode (.aluImm op n) = [byte (0xC6 + 8 * op.code), n] ∧
    (readLoc x s = .done v u →
      exec (.alu op x) s = .next (u.ends (after v) (s.next 1) (if x = .atHl then 2 else 1))) ∧
    exec (.aluImm op n) s = .next (s.ends (after n) (s.next 2) 2) := by
  refine ⟨encode_alu op x, encode_aluImm op n, fun h => ?_, ?_⟩
  · rw [exec_alu, aluLoc_of_read op h, hafter, locCost_eq_ite]
  · rw [exec_aluImm, aluImm, State.alu_finish, hafter]

/-! ### A read-modify-write that sets the flags -/

/-- Read an operand, write `(g v).r` back, set the flags of `g v`: the shape of `INC`, `DEC` and the
generic rotates and shifts (42_alu8 R239 to R242, 44_rotate_shift_bit R285 to R292). -/
def modifySettingFlags (g : Byte → AluResult) (x : Loc) (len reg atHl : Nat) (s : State) : Out :=
  (modifyLoc x (fun v => (g v).r) s).andThen fun v t =>
    (t.setAluFlags (g v)).finish len (locCost x reg atHl)

theorem incLoc_eq_modifySettingFlags (x : Loc) (s : State) :
    incLoc x s = modifySettingFlags (fun v => inc8 v s.flagC) x 1 1 3 s := rfl

theorem decLoc_eq_modifySettingFlags (x : Loc) (s : State) :
    decLoc x s = modifySettingFlags (fun v => dec8 v s.flagC) x 1 1 3 s := rfl

/-- The read-modify-write of a register (44_rotate_shift_bit R280). -/
theorem modifyLoc_reg (r : Reg8) (f : Byte → Byte) (s : State) :
    modifyLoc (.reg r) f s = .done (s.getReg r) (s.setReg r (f (s.getReg r))) := rfl

section atHl
variable {s u w : State} {v : Byte} {f : Byte → Byte} {k : Fatal}

/-- The read-modify-write of the byte at `x[HL]`: the write goes to the address read. -/
theorem modifyLoc_atHl_of_read (h : busRead s.hl s = .done v u) :
    modifyLoc .atHl f s = (busWrite s.hl (f v) u).bind fun _ w => .done v w := by
  have hhl : u.hl = s.hl := by rw [State.hl, State.hl, (busRead_sameCore h).regs]
  rw [modifyLoc, readLoc, h, Eff.bind_done, writeLoc, hhl]

theorem modifyLoc_atHl_of_write (hr : busRead s.hl s = .done v u)
    (hw : busWrite s.hl (f v) u = .done () w) : modifyLoc .atHl f s = .done v w := by
  rw [modifyLoc_atHl_of_read hr, hw, Eff.bind_done]

theorem modifyLoc_atHl_of_raise (hr : busRead s.hl s = .done v u)
    (hw : busWrite s.hl (f v) u = .raise k w) : modifyLoc .atHl f s = .raise k w := by
  rw [modifyLoc_atHl_of_read hr, hw, Eff.bind_raise]

variable (g : Byte → AluResult) (len reg atHl : Nat)

/-- On a register (42_alu8 R239, R241). -/
theorem modifySettingFlags_reg (r : Reg8) (s : State) :
    modifySettingFlags g (.reg r) len reg atHl s =
      .next (s.ends ((s.regs.set r (g (s.getReg r)).r).withFlags (g (s.getReg r)).z
        (g (s.getReg r)).n (g (s.getReg r)).h (g (s.getReg r)).c) (s.next len) reg) := by
  rw [modifySettingFlags, modifyLoc_reg, Eff.andThen_done, setAluFlags_finish, State.setReg_ends,
    State.setReg_next, State.setReg_regs, locCost]

/-- On the byte at `x[HL]`, both accesses completing (42_alu8 R240, R242). -/
theorem modifySettingFlags_atHl_of_write (hr : busRead s.hl s = .done v u)
    (hw : busWrite s.hl (g v).r u = .done () w) :
    modifySettingFlags g .atHl len reg atHl s =
      .next (w.ends (s.regs.withFlags (g v).z (g v).n (g v).h (g v).c) (s.next len) atHl) := by
  have hsame : SameCore s w := (busRead_sameCore hr).trans (busWrite_done hw)
  rw [modifySettingFlags, modifyLoc_atHl_of_write (f := fun v => (g v).r) hr hw, Eff.andThen_done,
    setAluFlags_finish, hsame.regs, hsame.next, locCost]

/-- A fatal write comes before the flags (42_alu8 R240, R242). -/
theorem modifySettingFlags_atHl_of_raise (hr : busRead s.hl s = .done v u)
    (hw : busWrite s.hl (g v).r u = .raise k w) :
    modifySettingFlags g .atHl len reg atHl s = .next { w with fatal := some k } ∧
      w.regs = s.regs := by
  refine ⟨?_, (busWrite_raise hw).2.trans (busRead_sameCore hr).regs⟩
  rw [modifySettingFlags, modifyLoc_atHl_of_raise (f := fun v => (g v).r) hr hw, Eff.andThen_raise,
    State.raised]

end atHl

theorem encode_incReg (r : Reg8) : encode (.incReg r) = [byte (0x04 + 8 * r.code)] := by
  cases r <;> rfl

theorem encode_decReg (r : Reg8) : encode (.decReg r) = [byte (0x05 + 8 * r.code)] := by
  cases r <;> rfl

/-! ### `DAA` -/

/-- After an addition: what is added, and the carry (42_alu8 R243). -/
theorem daa8_of_add {a : Byte} {h ci c : Bool} {r : Nat} (hc : c = true ↔ ci = true ∨ a.toNat > 0x99)
    (hr : r = a.toNat + (if c then 0x60 else 0) + (if h = true ∨ a.toNat % 16 > 9 then 6 else 0)) :
    daa8 a false h ci = { r := byte r, z := decide (r % 256 = 0), n := false, h := false, c := c } := by
  have hup : (ci || decide (a.toNat > 0x99)) = c := by
    rw [Bool.eq_iff_iff, hc, Bool.or_eq_true, decide_eq_true_iff]
  have hbyte : a + ((if c then 0x60#8 else 0x00#8) +
      (if h || decide (a.toNat % 16 > 9) then 0x06#8 else 0x00#8)) = byte r := by
    rw [hr]
    simp only [Bool.or_eq_true, decide_eq_true_iff]
    split <;> split <;> bv_omega
  have hkeep : (ci || c) = c := by rw [← hup, Bool.or_self_left]
  simp only [daa8, Bool.not_false, Bool.true_and, Bool.false_and, Bool.false_eq_true, if_false,
    BitVec.add_zero, BitVec.sub_zero, hup, hkeep, hbyte, byte_beq_zero]

/-- After a subtraction: what is subtracted; the carry stays (42_alu8 R243). -/
theorem daa8_of_sub {a : Byte} {h c : Bool} {r : Nat}
    (hr : r + (if c then 0x60 else 0) + (if h then 6 else 0) = a.toNat + 256) :
    daa8 a true h c = { r := byte r, z := decide (r % 256 = 0), n := true, h := false, c := c } := by
  have hbyte : a - ((if c then 0x60#8 else 0x00#8) + (if h then 0x06#8 else 0x00#8)) = byte r := by
    revert hr
    split <;> split <;> intro hr <;> bv_omega
  simp only [daa8, Bool.not_true, Bool.true_and, Bool.false_and, Bool.false_eq_true, if_false,
    BitVec.add_zero, Bool.or_false, hbyte, byte_beq_zero]

/-! ### What `exec` does with the instructions outside the register families -/

section arms
variable (s : State)

theorem exec_incAtHl : exec .incAtHl s = incLoc .atHl s := rfl
theorem exec_decAtHl : exec .decAtHl s = decLoc .atHl s := rfl
theorem exec_daa : exec .daa s = execDaa s := rfl
theorem exec_cpl : exec .cpl s = execCpl s := rfl
theorem exec_scf : exec .scf s = execScf s := rfl
theorem exec_ccf : exec .ccf s = execCcf s := rfl

end arms

/-! ### The statements -/

/-- Settles O16: `ADD` has no incoming carry, `ADC` the flag; the sum is `add8`. -/
theorem addForms : Obligations.AddForms := by
  intro s u x op v n ci hop after
  refine alu_forms s u x op v n after fun v => ?_
  obtain ⟨rfl, hci⟩ | ⟨rfl, hci⟩ := hop
  · exact s.aluRegs_of_alu8 (op := .add) (add8_eq s.regs.a v (ci := false) hci)
  · exact s.aluRegs_of_alu8 (op := .adc) (add8_eq s.regs.a v (ci := s.flagC) hci)

/-- Settles O17: `SUB` and `CP` have no incoming carry, `SBC` the flag; the difference is `sub8`. -/
theorem subtractForms : Obligations.SubtractForms := by
  intro s u x op v n ci hop after
  refine alu_forms s u x op v n after fun v => ?_
  obtain ⟨rfl, hci⟩ | ⟨rfl, hci⟩ | ⟨rfl, hci⟩ := hop
  · rw [s.aluRegs_of_alu8 (op := .sub) (sub8_eq s.regs.a v (ci := false) hci)]
  · rw [s.aluRegs_of_alu8 (op := .sbc) (sub8_eq s.regs.a v (ci := s.flagC) hci)]
  · rw [s.aluRegs_of_alu8 (op := .cp) (sub8_eq s.regs.a v (ci := false) hci)]

/-- Settles O18: `alu8` computes each bitwise function, with its half-carry, by definition. -/
theorem logicForms : Obligations.LogicForms := by
  intro s u x op v n f h hop after
  refine alu_forms s u x op v n after fun v => ?_
  obtain ⟨rfl, rfl, rfl⟩ | ⟨rfl, rfl, rfl⟩ | ⟨rfl, rfl, rfl⟩ := hop
  · rfl
  · rfl
  · rfl

/-- Settles O19: both operations are a read-modify-write; a fatal write ends it before the flags. -/
theorem incrementDecrementForms : Obligations.IncrementDecrementForms := by
  intro s u w r v k
  refine ⟨⟨encode_incReg r, encode_decReg r, rfl, rfl⟩, ?_, ?_, fun hr hw => ?_, fun hr hw => ?_,
    fun hr hw => ?_, fun hr hw => ?_⟩
  · rw [exec_incReg, incLoc_eq_modifySettingFlags, modifySettingFlags_reg, inc8_eq]
  · rw [exec_decReg, decLoc_eq_modifySettingFlags, modifySettingFlags_reg, dec8_eq]
  · rw [exec_incAtHl, incLoc_eq_modifySettingFlags,
      modifySettingFlags_atHl_of_write _ _ _ _ hr (by rw [inc8_eq]; exact hw), inc8_eq]
  · rw [exec_decAtHl, decLoc_eq_modifySettingFlags,
      modifySettingFlags_atHl_of_write _ _ _ _ hr (by rw [dec8_eq]; exact hw), dec8_eq]
  · rw [exec_incAtHl, incLoc_eq_modifySettingFlags]
    exact modifySettingFlags_atHl_of_raise _ _ _ _ hr (by rw [inc8_eq]; exact hw)
  · rw [exec_decAtHl, decLoc_eq_modifySettingFlags]
    exact modifySettingFlags_atHl_of_raise _ _ _ _ hr (by rw [dec8_eq]; exact hw)

/-- Settles O20: the two branches of the adjustment. -/
theorem decimalAdjust : Obligations.DecimalAdjust := by
  refine ⟨rfl, fun s r c hadd hsub => ?_⟩
  have hdaa : daa8 s.regs.a s.flagN s.flagH s.flagC =
      { r := byte r, z := decide (r % 256 = 0), n := s.flagN, h := false, c := c } := by
    cases hn : s.flagN with
    | false =>
      obtain ⟨hc, hr⟩ := hadd hn
      exact daa8_of_add hc hr
    | true =>
      obtain ⟨rfl, hr⟩ := hsub hn
      exact daa8_of_sub hr
  rw [exec_daa, execDaa, setAlu_finish, hdaa]

/-- Settles O22: the complement is `255 - A`; the three write the flags and leave `Z`. -/
theorem flagOperations : Obligations.FlagOperations := by
  refine ⟨⟨rfl, rfl, rfl⟩, fun s => ⟨?_, ?_, ?_⟩⟩
  · rw [exec_cpl, execCpl, setFlags_finish, State.setReg_ends, State.setReg_next, State.setReg_regs,
      xor_0xFF_eq_byte]
  · rw [exec_scf, execScf, setFlags_finish]
  · rw [exec_ccf, execCcf, setFlags_finish]

end Sys2Proof.Machine
end

section
/-! PROOFS. 16-bit arithmetic (43_alu16 R271 to R273): the words of the statements as sums and
differences of words, and the end of each rule. -/

namespace Sys2Proof.Machine

/-! ### The results as words -/

/-- A word whose number is a sum mod 65536 is the sum of the words (00_scope R9). -/
theorem eq_add_of_toNat {r a b : Word} (h : r.toNat = (a.toNat + b.toNat) % 65536) : r = a + b :=
  BitVec.eq_of_toNat_eq (h.trans (BitVec.toNat_add a b).symm)

/-- Going down by one is adding 65535 mod 65536 (43_alu16 R273). -/
theorem eq_sub_one_of_toNat {r a : Word} (h : r.toNat = (a.toNat + 65535) % 65536) :
    r = a - 1#16 :=
  (eq_add_of_toNat (b := -1#16) h).trans (BitVec.sub_eq_add_neg a 1#16).symm

/-! ### The encodings -/

theorem encode_addHl (rr : Reg16) : encode (.addHl rr) = [byte (0x09 + 16 * rr.code)] := by
  cases rr <;> rfl

theorem encode_incPair (rr : Reg16) : encode (.incPair rr) = [byte (0x03 + 16 * rr.code)] := by
  cases rr <;> rfl

theorem encode_decPair (rr : Reg16) : encode (.decPair rr) = [byte (0x0B + 16 * rr.code)] := by
  cases rr <;> rfl

/-! ### The statement -/

/-- Settles O23: each rule ends after writing one pair, `ADD HL,rr` after the flags too; the word of
the statement is the sum or the difference that the rule writes. -/
theorem pairArithmetic : Obligations.PairArithmetic := by
  intro s rr r
  refine ⟨⟨encode_addHl rr, encode_incPair rr, encode_decPair rr⟩, fun h => ?_, fun h => ?_,
    fun h => ?_⟩
  · have hsum : r = s.hl + s.getPair rr := eq_add_of_toNat h
    rw [exec_addHl, addHl, State.setPair_setFlags_finish, State.setPair_regs, ← hsum, halfCarry16,
      carry16]
  · have hnext : r = s.getPair rr + 1#16 := eq_add_of_toNat h
    rw [exec_incPair, incPair, State.setPair_finish, hnext]
  · have hprev : r = s.getPair rr - 1#16 := eq_sub_one_of_toNat h
    rw [exec_decPair, decPair, State.setPair_finish, hprev]

end Sys2Proof.Machine
end

section
/-! PROOFS. Rotates, shifts, swap, bit test, reset and set (44_rotate_shift_bit R280 to R295): the results
of the rotates and shifts as numbers, single bits of a byte, and what each rule does when its accesses
complete. -/

namespace Sys2Proof.Machine

/-! ### One bit of a byte -/

/-- The flag of `BIT`: the complement of the bit tested (44_rotate_shift_bit R293). -/
theorem not_getLsbD_eq_decide (v : Byte) (k : Nat) :
    (!v.getLsbD k) = decide (v.toNat / 2 ^ k % 2 = 0) := by
  simp only [BitVec.getLsbD, Nat.testBit_eq_decide_div_mod_eq, ← decide_not, Nat.mod_two_not_eq_one]

/-- Bit 0 is the parity. -/
theorem getLsbD_zero_eq_decide (v : Byte) : v.getLsbD 0 = decide (v.toNat % 2 = 1) := by
  rw [BitVec.getLsbD, Nat.testBit_eq_decide_div_mod_eq, pow_zero, Nat.div_one]

theorem getLsbD_zero_toNat (v : Byte) : (v.getLsbD 0).toNat = v.toNat % 2 := by
  rw [BitVec.getLsbD, Nat.toNat_testBit, pow_zero, Nat.div_one]

/-- Bit 7 is set in the upper half of the bytes. -/
theorem getLsbD_seven_eq_decide (v : Byte) : v.getLsbD 7 = decide (v.toNat ≥ 128) := by
  have hv := v.isLt
  rw [BitVec.getLsbD, Nat.testBit_eq_decide_div_mod_eq, decide_eq_decide]
  omega

theorem getLsbD_seven_toNat (v : Byte) : (v.getLsbD 7).toNat = v.toNat / 128 := by
  have hv := v.isLt
  rw [BitVec.getLsbD, Nat.toNat_testBit]
  omega

/-- The mask of `RES` and `SET` has bit `b` alone (44_rotate_shift_bit R294, R295). -/
theorem bitMask_getLsbD (b : Fin 8) (i : Nat) : (1#8 <<< b.val).getLsbD i = (i == b.val) := by
  rw [← BitVec.twoPow_eq, BitVec.getLsbD_twoPow, decide_eq_true b.isLt, Bool.true_and,
    Bool.beq_eq_decide_eq, decide_eq_decide]
  exact eq_comm

/-- `RES` clears bit `b` and no other (44_rotate_shift_bit R294). -/
theorem eq_and_not_bitMask {b : Fin 8} {v r : Byte}
    (h : ∀ i < 8, r.getLsbD i = (v.getLsbD i && i != b.val)) : r = v &&& ~~~(1#8 <<< b.val) := by
  apply BitVec.eq_of_getLsbD_eq
  intro i hi
  rw [h i hi, BitVec.getLsbD_and, BitVec.getLsbD_not, bitMask_getLsbD, decide_eq_true hi,
    Bool.true_and, bne]

/-- `SET` sets bit `b` and no other (44_rotate_shift_bit R295). -/
theorem eq_or_bitMask {b : Fin 8} {v r : Byte}
    (h : ∀ i < 8, r.getLsbD i = (v.getLsbD i || i == b.val)) : r = v ||| (1#8 <<< b.val) := by
  apply BitVec.eq_of_getLsbD_eq
  intro i hi
  rw [h i hi, BitVec.getLsbD_or, bitMask_getLsbD]

/-! ### The rotates and shifts as numbers -/

/-- A byte made from a number depends on its low eight bits. -/
theorem byte_mod (n : Nat) : byte (n % 256) = byte n :=
  BitVec.eq_of_toNat_eq (by rw [BitVec.toNat_ofNat, BitVec.toNat_ofNat, Nat.mod_mod])

/-- The byte with a given number. -/
theorem eq_byte {r : Byte} {n : Nat} (h : r.toNat = n) : r = byte n :=
  (BitVec.toNat_eq_nat.mp h).2

/-- Low bits put below a shifted byte are added to it, since the shift has cleared their place. -/
theorem shiftLeft_or_eq_byte (hi lo : Byte) {k : Nat} (hlo : lo.toNat < 2 ^ k) :
    hi <<< k ||| lo = byte (hi.toNat * 2 ^ k + lo.toNat) := by
  calc hi <<< k ||| lo
      = byte (hi.toNat <<< k) ||| byte lo.toNat := congrArg (hi <<< k ||| ·) (eq_byte rfl)
    _ = byte (hi.toNat <<< k ||| lo.toNat) := BitVec.ofNat_or.symm
    _ = byte (hi.toNat * 2 ^ k + lo.toNat) := by
      rw [← Nat.shiftLeft_add_eq_or_of_lt hlo, Nat.shiftLeft_eq]

/-- One bit as a byte. -/
theorem ofBool_setWidth_toNat (b : Bool) : (BitVec.setWidth 8 (BitVec.ofBool b)).toNat = b.toNat := by
  cases b <;> rfl

/-- Right by one halves the number (44_rotate_shift_bit R292). -/
theorem shiftRight_one_toNat (v : Byte) : (v >>> 1).toNat = v.toNat / 2 := by
  rw [BitVec.toNat_ushiftRight, Nat.shiftRight_eq_div_pow, pow_one]

/-- Left by one, with `b` into bit 0 (44_rotate_shift_bit R285, R287). -/
theorem shiftLeft_or_bit (v : Byte) (b : Bool) :
    v <<< 1 ||| BitVec.setWidth 8 (BitVec.ofBool b) = byte (2 * v.toNat + b.toNat) := by
  have hb := b.toNat_lt
  rw [shiftLeft_or_eq_byte _ _ (by rw [ofBool_setWidth_toNat]; exact hb), ofBool_setWidth_toNat,
    pow_one, Nat.mul_comm]

/-- Right by one, with `b` into bit 7 (44_rotate_shift_bit R286, R288). -/
theorem shiftRight_or_bit (v : Byte) (b : Bool) :
    v >>> 1 ||| BitVec.setWidth 8 (BitVec.ofBool b) <<< 7 = byte (v.toNat / 2 + 128 * b.toNat) := by
  have hhalf := shiftRight_one_toNat v
  have hv := v.isLt
  rw [BitVec.or_comm, shiftLeft_or_eq_byte _ _ (by omega), ofBool_setWidth_toNat, hhalf,
    Nat.add_comm, Nat.mul_comm]
  rfl

/-- Bit 7 kept in its place (44_rotate_shift_bit R290). -/
theorem and_0x80 (v : Byte) :
    v &&& 0x80#8 = BitVec.setWidth 8 (BitVec.ofBool (v.getLsbD 7)) <<< 7 := by
  have hmask : v &&& 0x80#8 = if v.getLsbD 7 then 0x80#8 else 0#8 := BitVec.and_twoPow v 7
  rw [hmask]
  cases v.getLsbD 7 <;> rfl

/-- The nibbles exchanged (44_rotate_shift_bit R291). -/
theorem swapNibbles_eq_byte (v : Byte) :
    v <<< 4 ||| v >>> 4 = byte (v.toNat % 16 * 16 + v.toNat / 16) := by
  have hhigh : (v >>> 4).toNat = v.toNat / 16 := by
    rw [BitVec.toNat_ushiftRight, Nat.shiftRight_eq_div_pow]
  have hv := v.isLt
  rw [shiftLeft_or_eq_byte _ _ (by omega), hhigh, ← byte_mod, ← byte_mod (v.toNat % 16 * 16 + _)]
  congr 1
  omega

/-- The number of the result of a rotate or shift of `v`, with `ci` the carry before it
(44_rotate_shift_bit R285 to R292). -/
def rotNumber (op : RotOp) (v ci : Nat) : Nat :=
  match op with
  | .rlc => (2 * v + v / 128) % 256
  | .rrc => v / 2 + 128 * (v % 2)
  | .rl => (2 * v + ci) % 256
  | .rr => v / 2 + 128 * ci
  | .sla => 2 * v % 256
  | .sra => v / 2 + v / 128 * 128
  | .swap => v % 16 * 16 + v / 16
  | .srl => v / 2

/-- The bit shifted out: bit 7 to the left, bit 0 to the right, none of `SWAP`
(44_rotate_shift_bit R285 to R292). -/
def rotCarry (op : RotOp) (v : Nat) : Bool :=
  match op with
  | .rlc | .rl | .sla => decide (v ≥ 128)
  | .rrc | .rr | .sra | .srl => decide (v % 2 = 1)
  | .swap => false

/-- The bitwise results of the model are these numbers (44_rotate_shift_bit R285 to R292). -/
theorem rot8_eq (op : RotOp) (v : Byte) (ci : Bool) :
    rot8 op v ci =
      shiftResult (byte (rotNumber op v.toNat ci.toNat)) (rotCarry op v.toNat) := by
  cases op <;> simp only [rot8, rotNumber, rotCarry]
  case rlc => rw [shiftLeft_or_bit, getLsbD_seven_toNat, getLsbD_seven_eq_decide, byte_mod]
  case rrc => rw [shiftRight_or_bit, getLsbD_zero_toNat, getLsbD_zero_eq_decide]
  case rl => rw [shiftLeft_or_bit, getLsbD_seven_eq_decide, byte_mod]
  case rr => rw [shiftRight_or_bit, getLsbD_zero_eq_decide]
  case sla => rw [getLsbD_seven_eq_decide, eq_byte (BitVec.toNat_shiftLeft), Nat.shiftLeft_eq,
    pow_one, Nat.mul_comm]
  case sra => rw [and_0x80, shiftRight_or_bit, getLsbD_seven_toNat, getLsbD_zero_eq_decide,
    Nat.mul_comm]
  case swap => rw [swapNibbles_eq_byte]
  case srl => rw [eq_byte (shiftRight_one_toNat v), getLsbD_zero_eq_decide]

/-! ### The ends of the rules -/

/-- An accumulator rotate: `Z` is 0 whatever the result (44_rotate_shift_bit R281 to R284). -/
theorem rotA_eq (op : RotOp) (s : State) :
    rotA op s = .next (s.ends ((s.regs.set .a
      (byte (rotNumber op s.regs.a.toNat s.flagC.toNat))).withFlags false false false
        (rotCarry op s.regs.a.toNat)) (s.next 1) 1) := by
  simp only [rotA, setFlags_finish, State.setReg_ends, State.setReg_next, State.setReg_regs, rot8_eq,
    shiftResult]

section access
variable {x : Loc} {s u w : State} {v : Byte} {f : Byte → Byte}

/-- An operand read leaves the core (44_rotate_shift_bit R280). -/
theorem readLoc_sameCore (h : readLoc x s = .done v u) : SameCore s u := by
  obtain ⟨n, rfl⟩ := readLoc_done h
  exact SameCore.of_extReads s n

/-- Neither access of a read-modify-write moves the following instruction. -/
theorem next_of_modify {r : Byte} (hr : readLoc x s = .done v u) (hw : writeLoc x r u = .done () w)
    (len : Nat) : w.next len = s.next len := by
  obtain ⟨hpc, -, hbug⟩ := writeLoc_done hw
  rw [State.next_congr hpc hbug, (readLoc_sameCore hr).next]

/-- A read-modify-write whose two accesses complete (44_rotate_shift_bit R280). -/
theorem modifyLoc_of_accesses (hr : readLoc x s = .done v u)
    (hw : writeLoc x (f v) u = .done () w) : modifyLoc x f s = .done v w := by
  rw [modifyLoc, hr, Eff.bind_done, hw, Eff.bind_done]

/-- A read-modify-write that sets the flags, on either operand form, both accesses completing. -/
theorem modifySettingFlags_of_accesses (g : Byte → AluResult) (len reg atHl : Nat)
    (hr : readLoc x s = .done v u) (hw : writeLoc x (g v).r u = .done () w) :
    modifySettingFlags g x len reg atHl s =
      .next (w.ends (w.regs.withFlags (g v).z (g v).n (g v).h (g v).c) (s.next len)
        (locCost x reg atHl)) := by
  rw [modifySettingFlags, modifyLoc_of_accesses (f := fun v => (g v).r) hr hw, Eff.andThen_done,
    setAluFlags_finish, next_of_modify hr hw]

/-- A read-modify-write that sets no flags, both accesses completing. -/
theorem modifyLoc_finish_of_accesses (len n : Nat) (hr : readLoc x s = .done v u)
    (hw : writeLoc x (f v) u = .done () w) :
    ((modifyLoc x f s).andThen fun _ t => t.finish len n) =
      .next (w.ends w.regs (s.next len) n) := by
  rw [modifyLoc_of_accesses hr hw, Eff.andThen_done, State.finish_eq_ends, next_of_modify hr hw]

/-- `BIT b,t` (44_rotate_shift_bit R293). -/
theorem bitLoc_of_read (b : Fin 8) (h : readLoc x s = .done v u) :
    bitLoc b x s = .next (u.ends (s.regs.withFlags (!v.getLsbD b.val) false true s.flagC)
      (s.next 2) (locCost x 2 3)) := by
  have hu := readLoc_sameCore h
  rw [bitLoc, h, Eff.andThen_done, setFlags_finish, hu.regs, hu.next, State.flagC, hu.regs,
    State.flagC]

end access

/-- The generic rotates and shifts are read-modify-writes that set the flags
(44_rotate_shift_bit R285 to R292). -/
theorem rotLoc_eq_modifySettingFlags (op : RotOp) (x : Loc) (s : State) :
    rotLoc op x s = modifySettingFlags (fun v => rot8 op v s.flagC) x 2 2 4 s := rfl

/-! ### What `exec` does with the accumulator rotates -/

section arms
variable (s : State)

theorem exec_rlca : exec .rlca s = rotA .rlc s := rfl
theorem exec_rrca : exec .rrca s = rotA .rrc s := rfl
theorem exec_rla : exec .rla s = rotA .rl s := rfl
theorem exec_rra : exec .rra s = rotA .rr s := rfl

end arms

/-! ### The encodings -/

theorem encode_rot (op : RotOp) (x : Loc) :
    encode (.rot op x) = [0xCB#8, byte (8 * op.code + x.code)] := by
  cases op <;> rcases x with (_ | _ | _ | _ | _ | _ | _) | _ <;> rfl

theorem encode_bit (b : Fin 8) (x : Loc) :
    encode (.bit b x) = [0xCB#8, byte (0x40 + 8 * b.val + x.code)] := by
  fin_cases b <;> rcases x with (_ | _ | _ | _ | _ | _ | _) | _ <;> rfl

theorem encode_res (b : Fin 8) (x : Loc) :
    encode (.res b x) = [0xCB#8, byte (0x80 + 8 * b.val + x.code)] := by
  fin_cases b <;> rcases x with (_ | _ | _ | _ | _ | _ | _) | _ <;> rfl

theorem encode_setBit (b : Fin 8) (x : Loc) :
    encode (.setBit b x) = [0xCB#8, byte (0xC0 + 8 * b.val + x.code)] := by
  fin_cases b <;> rcases x with (_ | _ | _ | _ | _ | _ | _) | _ <;> rfl

/-! ### The statements -/

/-- Settles O24: each is `rotA` of its generic operation; the two left rotates drop bit 8. -/
theorem accumulatorRotates : Obligations.AccumulatorRotates := by
  refine ⟨⟨rfl, rfl, rfl, rfl⟩, fun s => ⟨?_, ?_, ?_, ?_⟩⟩
  · rw [exec_rlca, rotA_eq, rotNumber, byte_mod, rotCarry]
  · rw [exec_rrca, rotA_eq, rotNumber, rotCarry]
  · rw [exec_rla, rotA_eq, rotNumber, byte_mod, rotCarry]
  · rw [exec_rra, rotA_eq, rotNumber, rotCarry]

/-- Settles O25: the byte written is the one that `rot8` computes, its flags those of the result. -/
theorem rotateShiftForms : Obligations.RotateShiftForms := by
  refine ⟨fun x op => encode_rot op x, fun s u w x op v r c hr hop hw => ?_⟩
  have hspec : r.toNat = rotNumber op v.toNat s.flagC.toNat ∧ c = rotCarry op v.toNat := by
    cases op <;> exact hop
  obtain ⟨hnum, hcarry⟩ := hspec
  have hrot : rot8 op v s.flagC = shiftResult r c := by rw [rot8_eq, ← eq_byte hnum, ← hcarry]
  rw [exec_rot, rotLoc_eq_modifySettingFlags,
    modifySettingFlags_of_accesses _ _ _ _ hr (by rw [hrot]; exact hw), hrot, locCost_eq_ite,
    shiftResult, Bool.beq_eq_decide_eq]

/-- Settles O26: the operand is read only, and the flags take the complement of the bit. -/
theorem bitTest : Obligations.BitTest := by
  refine ⟨fun x b => encode_bit b x, fun s u x b v h => ?_⟩
  rw [exec_bit, bitLoc_of_read b h, not_getLsbD_eq_decide, locCost_eq_ite]

/-- Settles O27: the byte described bit by bit is the one written through the mask. -/
theorem bitResetAndSet : Obligations.BitResetAndSet := by
  refine ⟨fun x b => ⟨encode_res b x, encode_setBit b x⟩,
    fun s u w x b v r hr hw => ⟨fun hbits => ?_, fun hbits => ?_⟩⟩
  · rw [eq_and_not_bitMask hbits] at hw
    rw [exec_res, resLoc, modifyLoc_finish_of_accesses 2 _ hr hw, locCost_eq_ite]
  · rw [eq_or_bitMask hbits] at hw
    rw [exec_setBit, setLoc, modifyLoc_finish_of_accesses 2 _ hr hw, locCost_eq_ite]

end Sys2Proof.Machine
end

section
/-! PROOFS. Control flow (45_control_flow R310 to R321): the encodings by condition code, the ends of rules
that redirect `pc`, and what a call and a return do when the stack accesses complete or are fatal. -/

namespace Sys2Proof.Machine

/-! ### The end of a rule that redirects `pc` -/

theorem State.jump_eq_ends (s : State) (p : Word) (n : Nat) : s.jump p n = s.ends s.regs p n := rfl

/-- The signed offset is relative to the following instruction (45_control_flow R314). -/
theorem State.relative_eq (s : State) (e : Byte) :
    s.relative e = BitVec.ofInt 16 ((s.next 2).toNat + e.toInt) :=
  add_sext16 (s.next 2) e

section stack
variable {s w : State} {v : Word}

/-- A jump after a push (45_control_flow R316). -/
theorem jump_of_pushes (h : Pushes v s w) (p : Word) (n : Nat) :
    w.jump p n = w.ends { s.regs with sp := s.regs.sp - 2#16 } p n := by
  obtain ⟨hsp, hsame⟩ := pushes_sameButSp h
  rw [State.jump_eq_ends, hsame.regs, State.setSp_regs, hsp]

/-- A jump after a pop: the reads leave the registers (45_control_flow R318). -/
theorem jump_of_pops (h : Pops s v w) (p : Word) (n : Nat) :
    (w.setSp (s.regs.sp + 2#16)).jump p n = w.ends { s.regs with sp := s.regs.sp + 2#16 } p n := by
  obtain ⟨-, m, rfl⟩ := pops_pop16 h
  rfl

/-- A fatal push leaves `pc` (41_load16 R210). -/
theorem push16_raise_pc {k : Fatal} (h : push16 v s = .raise k w) : w.regs.pc = s.regs.pc := by
  have hsame : SameButSp s (push16 v s).state := push16_sameButSp v s
  rw [h, Eff.state_raise] at hsame
  rw [hsame.regs, State.setSp_regs]

end stack

/-! ### What each meaning does -/

section jumps
variable (s : State) (cc : Cond)

/-- `JP cc,nn` (45_control_flow R312). -/
theorem jpCc_eq (nn : Word) :
    jpCc cc nn s = .next (if s.cond cc then s.ends s.regs nn 4 else s.ends s.regs (s.next 3) 3) := by
  rw [jpCc, State.jump_eq_ends, State.finish_eq_ends, ← apply_ite Host.Outcome.next]

/-- `JR cc,e` (45_control_flow R315). -/
theorem jrCc_eq (e : Byte) :
    jrCc cc e s = .next (if s.cond cc then s.ends s.regs (s.relative e) 3
      else s.ends s.regs (s.next 2) 2) := by
  rw [jrCc, State.jump_eq_ends, State.finish_eq_ends, ← apply_ite Host.Outcome.next]

end jumps

section calls
variable {s w : State} {cc : Cond}

/-- A call whose push completes (45_control_flow R316, R321). -/
theorem callTo_of_pushes {len : Nat} (h : Pushes (s.next len) s w) (target : Word) (n : Nat) :
    callTo target len n s =
      .next (w.ends { s.regs with sp := s.regs.sp - 2#16 } target n) := by
  rw [callTo, pushes_push16 h, Eff.andThen_done, jump_of_pushes h]

/-- A fatal push comes before the jump (45_control_flow R316, R321). -/
theorem callTo_of_raise {len : Nat} {k : Fatal} (h : push16 (s.next len) s = .raise k w)
    (target : Word) (n : Nat) : callTo target len n s = .next { w with fatal := some k } := by
  rw [callTo, h, Eff.andThen_raise, State.raised]

/-- `CALL cc,nn` taken is `CALL nn` (45_control_flow R317). -/
theorem callCc_of_cond (h : s.cond cc = true) (nn : Word) : callCc cc nn s = callTo nn 3 6 s :=
  if_pos h

/-- `CALL cc,nn` not taken (45_control_flow R317). -/
theorem callCc_of_not_cond (h : s.cond cc = false) (nn : Word) :
    callCc cc nn s = .next (s.ends s.regs (s.next 3) 3) := by
  rw [callCc, h, if_neg Bool.false_ne_true, State.finish_eq_ends]

/-- `RST t` calls the address `8 * y` (45_control_flow R321). -/
theorem rst_eq_callTo (y : Fin 8) (s : State) :
    rst y s = callTo (BitVec.ofNat 16 (8 * y.val)) 1 4 s := by
  rw [rst, Nat.mul_comm]

/-- A return whose pop completes (45_control_flow R318). -/
theorem retWith_of_pops {v : Word} (h : Pops s v w) (n : Nat) :
    retWith n s = .next (w.ends { s.regs with sp := s.regs.sp + 2#16 } v n) := by
  rw [retWith, (pops_pop16 h).1, Eff.andThen_done, jump_of_pops h]

/-- `RET cc` taken is `RET` with its own cost (45_control_flow R319). -/
theorem retCc_of_cond (h : s.cond cc = true) : retCc cc s = retWith 5 s := if_pos h

/-- `RET cc` not taken (45_control_flow R319). -/
theorem retCc_of_not_cond (h : s.cond cc = false) :
    retCc cc s = .next (s.ends s.regs (s.next 1) 2) := by
  rw [retCc, h, if_neg Bool.false_ne_true, State.finish_eq_ends]

/-- The return from a handler opens the gate at once (45_control_flow R320). -/
theorem returnFromInterrupt_of_pops {v : Word} (h : Pops s v w) :
    returnFromInterrupt s =
      .next { w.ends { s.regs with sp := s.regs.sp + 2#16 } v 4 with ime := true } := by
  rw [returnFromInterrupt, (pops_pop16 h).1, Eff.andThen_done, jump_of_pops h]

end calls

/-! ### What `exec` does with the unconditional forms -/

section arms
variable (s : State) (e : Byte) (nn : Word)

theorem exec_jpNn : exec (.jpNn nn) s = .next (s.jump nn 4) := rfl
theorem exec_jpHl : exec .jpHl s = .next (s.jump s.hl 1) := rfl
theorem exec_jrE : exec (.jrE e) s = .next (s.jump (s.relative e) 3) := rfl
theorem exec_callNn : exec (.callNn nn) s = callTo nn 3 6 s := rfl
theorem exec_ret : exec .ret s = retWith 4 s := rfl
theorem exec_reti : exec .reti s = returnFromInterrupt s := rfl

end arms

/-! ### The encodings -/

theorem encode_jpNn (nn : Word) :
    encode (.jpNn nn) = [0xC3#8, byte (nn.toNat % 256), byte (nn.toNat / 256)] := by
  rw [← loByte_eq_byte, ← hiByte_eq_byte]
  rfl

theorem encode_jpCc (cc : Cond) (nn : Word) :
    encode (.jpCc cc nn) =
      [byte (0xC2 + 8 * cc.code), byte (nn.toNat % 256), byte (nn.toNat / 256)] := by
  rw [← loByte_eq_byte, ← hiByte_eq_byte]
  cases cc <;> rfl

theorem encode_jrCc (cc : Cond) (e : Byte) :
    encode (.jrCc cc e) = [byte (0x20 + 8 * cc.code), e] := by
  cases cc <;> rfl

theorem encode_callNn (nn : Word) :
    encode (.callNn nn) = [0xCD#8, byte (nn.toNat % 256), byte (nn.toNat / 256)] := by
  rw [← loByte_eq_byte, ← hiByte_eq_byte]
  rfl

theorem encode_callCc (cc : Cond) (nn : Word) :
    encode (.callCc cc nn) =
      [byte (0xC4 + 8 * cc.code), byte (nn.toNat % 256), byte (nn.toNat / 256)] := by
  rw [← loByte_eq_byte, ← hiByte_eq_byte]
  cases cc <;> rfl

theorem encode_rst (y : Fin 8) : encode (.rst y) = [byte (0xC7 + 8 * y.val)] := by
  fin_cases y <;> rfl

theorem encode_retCc (cc : Cond) : encode (.retCc cc) = [byte (0xC0 + 8 * cc.code)] := by
  cases cc <;> rfl

/-! ### The statements -/

/-- Settles O28: `taken` is the condition read from the flags; both branches end with the registers
as they were. -/
theorem jumpForms : Obligations.JumpForms := by
  refine ⟨fun cc nn e => ⟨encode_jpNn nn, encode_jpCc cc nn, rfl, rfl, encode_jrCc cc e⟩,
    fun s nn e => ⟨?_, ?_, ?_⟩, fun s cc nn e taken htaken => ?_⟩
  · rw [exec_jpNn, State.jump_eq_ends]
  · rw [exec_jpHl, State.jump_eq_ends]
  · rw [exec_jrE, State.jump_eq_ends, State.relative_eq]
  · have hcond : taken = s.cond cc := by cases cc <;> exact htaken
    subst hcond
    constructor
    · rw [exec_jpCc, jpCc_eq]
    · rw [exec_jrCc, jrCc_eq, State.relative_eq]

/-- Settles O29: every form taken is `callTo`, whose jump follows the push. -/
theorem callForms : Obligations.CallForms := by
  refine ⟨fun cc nn y => ⟨encode_callNn nn, encode_callCc cc nn, encode_rst y⟩,
    fun s w cc nn y k => ⟨fun h => ⟨push16_raise_pc h, ?_, fun hcc => ?_⟩,
      fun h => ⟨push16_raise_pc h, ?_⟩⟩,
    fun s w nn h => ?_, fun s w cc nn hcc h => ?_, fun s cc nn hcc => ?_, fun s w y h => ?_⟩
  · rw [exec_callNn, callTo_of_raise h]
  · rw [exec_callCc, callCc_of_cond hcc, callTo_of_raise h]
  · rw [exec_rst, rst_eq_callTo, callTo_of_raise h]
  · rw [exec_callNn, callTo_of_pushes h]
  · rw [exec_callCc, callCc_of_cond hcc, callTo_of_pushes h]
  · rw [exec_callCc, callCc_of_not_cond hcc]
  · rw [exec_rst, rst_eq_callTo, callTo_of_pushes h]

/-- Settles O30: each return jumps to the popped word; `RETI` then sets `ime` and nothing else. -/
theorem returnForms : Obligations.ReturnForms := by
  refine ⟨⟨rfl, rfl, encode_retCc⟩, fun s w v h => ?_, fun s w v cc hcc h => ?_,
    fun s cc hcc => ?_, fun s w v h => ?_⟩
  · rw [exec_ret, retWith_of_pops h]
  · rw [exec_retCc, retCc_of_cond hcc, retWith_of_pops h]
  · rw [exec_retCc, retCc_of_not_cond hcc]
  · rw [exec_reti, returnFromInterrupt_of_pops h]

end Sys2Proof.Machine
end

section
/-! PROOFS. CPU control and the invalid bytes (46_cpu_control R331 to R336): how each control meaning
ends, and what the decoder makes of an invalid byte. -/

namespace Sys2Proof.Machine

/-! ### What each meaning does -/

section control
variable (s : State) (n : Byte)

/-- `NOP` ends with the registers as they were (46_cpu_control R331). -/
theorem execNop_eq : execNop s = .next (s.ends s.regs (s.next 1) 1) := by
  rw [execNop, State.finish_eq_ends]

/-- `HALT` on a machine without the `HALT` bug leaves its latch clear (46_cpu_control R332; log 9). -/
theorem execHalt_of_no_haltBug (h : s.params.haltBug = false) :
    execHalt s = .next { s.ends s.regs (s.next 1) 1 with halted := true } := by
  have hlatch : (s.params.haltBug && !s.ime && s.pending.isSome) = false := by
    rw [h, Bool.false_and, Bool.false_and]
  rw [execHalt, hlatch, State.finish_eq_ends]
  rfl

/-- `STOP` skips its second byte unread (46_cpu_control R333). -/
theorem execStop_eq :
    execStop n s = .next { s.ends s.regs (s.next 2) 1 with stopped := true } := by
  rw [execStop, State.finish_eq_ends]

/-- `DI` also cancels an `EI` not yet in force (46_cpu_control R334). -/
theorem execDi_eq :
    execDi s = .next { s.ends s.regs (s.next 1) 1 with ime := false, imeSched := false } := by
  rw [execDi, State.finish_eq_ends]

/-- `EI` only schedules: `ime` is as before at its end (46_cpu_control R335). -/
theorem execEi_eq : execEi s = .next { s.ends s.regs (s.next 1) 1 with imeSched := true } := by
  rw [execEi, State.finish_eq_ends]

end control

/-! ### What `exec` does with the control forms -/

section arms
variable (s : State) (n : Byte)

theorem exec_nop : exec .nop s = execNop s := rfl
theorem exec_halt : exec .halt s = execHalt s := rfl
theorem exec_stop : exec (.stop n) s = execStop n s := rfl
theorem exec_di : exec .di s = execDi s := rfl
theorem exec_ei : exec .ei s = execEi s := rfl

end arms

/-! ### The decoder on the invalid bytes -/

/-- An invalid byte is a whole instruction: the two bytes after it do not matter (30_encoding R160). -/
theorem decode_badByte (x : BadByte) (b1 b2 : Byte) : decode x.code b1 b2 = .invalid x := by
  cases x <;> rfl

/-! ### The statements -/

/-- Settles O31: each control form ends as `NOP` does, but for the latches it sets. -/
theorem cpuControlForms : Obligations.CpuControlForms := by
  refine fun s n => ⟨⟨rfl, rfl, rfl, rfl, rfl⟩, ?_, fun hbug => ?_, ?_, ?_, ?_⟩
  · rw [exec_nop, execNop_eq]
  · rw [exec_halt, execHalt_of_no_haltBug s hbug]
  · rw [exec_stop, execStop_eq]
  · rw [exec_di, execDi_eq]
  · rw [exec_ei, execEi_eq]

/-- Settles O32: the decoder finds the invalid variant, whose one effect is the fatal record. -/
theorem invalidBytesAreFatal : Obligations.InvalidBytesAreFatal := by
  refine fun x b1 b2 s => ⟨decode_badByte x b1 b2, ?_⟩
  rw [exec_invalid, invalidOpcode, State.raised]

end Sys2Proof.Machine
end

section
/-! PROOFS. The interrupt controller (60_exceptions R342 to R346): the priority of the sources, the
operations on the request mask bit by bit, and the two masks as memory. -/

namespace Sys2Proof.Machine

/-! ### The mask of a source, and what is pending -/

theorem Source.bit_lt (i : Source) : i.bit < 8 := by
  cases i <;> decide

/-- A source's mask has its bit alone (60_exceptions R341). -/
theorem Source.mask_getLsbD (i : Source) (k : Nat) : i.mask.getLsbD k = (k == i.bit) :=
  bitMask_getLsbD ⟨i.bit, i.bit_lt⟩ k

/-- A source is in the pending mask when it is enabled and requested; the four sources lie below bit 4
(60_exceptions R342). -/
theorem pendingMask_getLsbD_bit (s : State) (i : Source) :
    s.pendingMask.getLsbD i.bit = true ↔
      s.intEnable.getLsbD i.bit = true ∧ s.intRequest.getLsbD i.bit = true := by
  have hlow : (0x0F#8).getLsbD i.bit = true := by cases i <;> decide
  rw [State.pendingMask, BitVec.getLsbD_and, BitVec.getLsbD_and, hlow, Bool.and_true, Bool.and_eq_true]

theorem Source.forall_iff {P : Source → Prop} :
    (∀ q, P q) ↔ P .vblank ∧ P .stat ∧ P .timer ∧ P .serial :=
  ⟨fun h => ⟨h _, h _, h _, h _⟩, fun ⟨h0, h1, h2, h3⟩ q => by
    cases q with
    | vblank => exact h0
    | stat => exact h1
    | timer => exact h2
    | serial => exact h3⟩

/-- The pending source is the least of the pending mask: the tests go by the bit numbers, so each is
reached when the bits before it are clear (60_exceptions R342). -/
theorem pending_eq_some_iff (s : State) (p : Source) :
    s.pending = some p ↔ s.pendingMask.getLsbD p.bit = true ∧
      ∀ q : Source, q.bit < p.bit → ¬ s.pendingMask.getLsbD q.bit = true := by
  rw [State.pending, Source.forall_iff]
  generalize s.pendingMask.getLsbD = bits
  split_ifs with h0 h1 h2 h3
  · cases p <;> simp [Source.bit, h0]
  · cases p <;> simp [Source.bit, h0, h1]
  · cases p <;> simp [Source.bit, h0, h1, h2]
  · cases p <;> simp [Source.bit, h0, h1, h2, h3]
  · cases p <;> simp [Source.bit, h0, h1, h2, h3]

/-! ### The operations on the request mask -/

/-- A second request changes nothing (60_exceptions R343). -/
theorem request_request (s : State) (i : Source) : (s.request i).request i = s.request i := by
  simp only [State.request, BitVec.or_assoc, BitVec.or_self]

/-- Handling clears the bit of its source and no other (60_exceptions R345). -/
theorem clearRequest_getLsbD (s : State) (p : Source) (k : Nat) :
    (s.clearRequest p).intRequest.getLsbD k = (s.intRequest.getLsbD k && k != p.bit) := by
  rw [State.clearRequest, BitVec.getLsbD_and, BitVec.getLsbD_not, Source.mask_getLsbD]
  by_cases hk : k < 8
  · rw [decide_eq_true hk, Bool.true_and, bne]
  · rw [BitVec.getLsbD_of_ge _ _ (not_lt.mp hk), Bool.false_and, Bool.false_and]

theorem handle_of_pending_none {s : State} (h : s.pending = none) (clear : Bool) :
    s.handle clear = (none, s) := by
  rw [State.handle, h]

theorem handle_of_pending {s : State} {p : Source} (h : s.pending = some p) (clear : Bool) :
    s.handle clear = (some p.handler, if clear then s.clearRequest p else s) := by
  rw [State.handle, h]

/-! ### The masks as memory -/

section bus
variable {s : State} {a : Word} (v : Byte)

theorem busRead_intEnable (hr : s.route 0xFFFF#16 = .ok .interruptController) :
    busRead 0xFFFF#16 s = .done s.intEnable s :=
  busRead_of_route hr

theorem busRead_intRequest (hr : s.route 0xFF0F#16 = .ok .interruptController) :
    busRead 0xFF0F#16 s = .done s.intRequest s :=
  busRead_of_route hr

theorem busWrite_intEnable (hr : s.route 0xFFFF#16 = .ok .interruptController) :
    busWrite 0xFFFF#16 v s = .done () { s with intEnable := v } := by
  have hi : intercept s.params.revision 0xFFFF#16 = none := by cases s.params.revision <;> rfl
  exact busWrite_of_route v hi hr

theorem busWrite_intRequest (hr : s.route 0xFF0F#16 = .ok .interruptController) :
    busWrite 0xFF0F#16 v s = .done () { s with intRequest := v } := by
  have hi : intercept s.params.revision 0xFF0F#16 = none := by cases s.params.revision <;> rfl
  exact busWrite_of_route v hi hr

/-- The controller owns its two addresses alone (60_exceptions R346, R361; log 11). -/
theorem busRead_interruptController_unowned (hr : s.route a = .ok .interruptController)
    (hE : a ≠ 0xFFFF#16) (hF : a ≠ 0xFF0F#16) : busRead a s = .raise (.unmappedAddress a) s := by
  rw [busRead_of_route hr, deviceGet8, interruptGet8, if_neg hE, if_neg hF]

theorem busWrite_interruptController_unowned (hr : s.route a = .ok .interruptController)
    (hE : a ≠ 0xFFFF#16) (hF : a ≠ 0xFF0F#16) (hi : intercept s.params.revision a = none) :
    busWrite a v s = .raise (.unmappedAddress a) s := by
  rw [busWrite_of_route v hi hr, deviceSet8, interruptSet8, if_neg hE, if_neg hF]

end bus

/-! ### The statement -/

/-- Settles O54: the parts are the priority, the request mask bit by bit, and the two masks on the
bus. -/
theorem interruptControllerOperations : Obligations.InterruptControllerOperations := by
  refine ⟨fun s p => ?_, fun s i k => ?_, fun s i => rfl, request_request,
    fun s clear h => handle_of_pending_none h clear, fun s p h => ⟨handle_of_pending h false, ?_⟩,
    fun s v hr => ⟨busRead_intEnable hr, busWrite_intEnable v hr⟩,
    fun s v hr => ⟨busRead_intRequest hr, busWrite_intRequest v hr⟩,
    fun s a v hr hE hF => ⟨busRead_interruptController_unowned hr hE hF,
      busWrite_interruptController_unowned v hr hE hF⟩⟩
  · simp only [pending_eq_some_iff, pendingMask_getLsbD_bit, and_assoc]
  · rw [request_getLsbD, Bool.beq_comm]
  · exact ⟨s.clearRequest p, handle_of_pending h true, rfl, clearRequest_getLsbD s p⟩

end Sys2Proof.Machine
end

section
/-! PROOFS. The decoder and the encoder as inverses (30_encoding R142, R161, R162): each instruction from
its own bytes, each window from the instruction it decodes to. -/

namespace Sys2Proof.Machine

/-! ### The second table from its operands (30_encoding R158) -/

theorem decodeCb_rot (op : RotOp) (x : Loc) :
    decodeCb (byte (8 * op.code + x.code)) = .rot op x := by
  cases op <;> rcases x with (_ | _ | _ | _ | _ | _ | _) | _ <;> rfl

theorem decodeCb_bit (b : Fin 8) (x : Loc) :
    decodeCb (byte (0x40 + 8 * b.val + x.code)) = .bit b x := by
  fin_cases b <;> rcases x with (_ | _ | _ | _ | _ | _ | _) | _ <;> rfl

theorem decodeCb_res (b : Fin 8) (x : Loc) :
    decodeCb (byte (0x80 + 8 * b.val + x.code)) = .res b x := by
  fin_cases b <;> rcases x with (_ | _ | _ | _ | _ | _ | _) | _ <;> rfl

theorem decodeCb_setBit (b : Fin 8) (x : Loc) :
    decodeCb (byte (0xC0 + 8 * b.val + x.code)) = .setBit b x := by
  fin_cases b <;> rcases x with (_ | _ | _ | _ | _ | _ | _) | _ <;> rfl

/-! ### Each instruction from its bytes -/

/-- The encoding of `i` opens with a byte that tells its length, and decodes to `i` whatever follows it
(30_encoding R142, R162). -/
def DecodesBack (i : Instr) : Prop :=
  ∃ b0 bs, encode i = b0 :: bs ∧ lengthOf b0 = bs.length + 1 ∧
    ∀ rest, decode b0 ((bs ++ rest).getD 0 0#8) ((bs ++ rest).getD 1 0#8) = i

/-- A 16-bit immediate is the word of its two bytes (30_encoding R152). -/
theorem decodesBack_word {f : Word → Instr} {b0 : Byte} (nn : Word)
    (henc : encode (f nn) = [b0, loByte nn, hiByte nn]) (hlen : lengthOf b0 = 3)
    (hdec : ∀ b1 b2, decode b0 b1 b2 = f (join b2 b1)) : DecodesBack (f nn) :=
  ⟨b0, _, henc, hlen, fun _ => (hdec _ _).trans (congrArg f (join_hiByte_loByte nn))⟩

/-- Of a prefixed instruction the second byte alone
counts; every other instruction without a word is its first byte and the byte after it. -/
theorem decodesBack_all (i : Instr) : DecodesBack i := by
  induction i using Instr.byFamily with
  | ldReg r r' => cases r <;> cases r' <;> exact ⟨_, _, rfl, rfl, fun _ => rfl⟩
  | ldImm r _ | ldFromHl r | ldToHl r | incReg r | decReg r =>
    cases r <;> exact ⟨_, _, rfl, rfl, fun _ => rfl⟩
  | addHl rr | incPair rr | decPair rr => cases rr <;> exact ⟨_, _, rfl, rfl, fun _ => rfl⟩
  | push qq | pop qq => cases qq <;> exact ⟨_, _, rfl, rfl, fun _ => rfl⟩
  | aluImm op _ => cases op <;> exact ⟨_, _, rfl, rfl, fun _ => rfl⟩
  | alu op x =>
    cases op <;> rcases x with (_ | _ | _ | _ | _ | _ | _) | _ <;>
      exact ⟨_, _, rfl, rfl, fun _ => rfl⟩
  | rot op x => exact ⟨_, _, encode_rot op x, rfl, fun _ => decodeCb_rot op x⟩
  | bit b x => exact ⟨_, _, encode_bit b x, rfl, fun _ => decodeCb_bit b x⟩
  | res b x => exact ⟨_, _, encode_res b x, rfl, fun _ => decodeCb_res b x⟩
  | setBit b x => exact ⟨_, _, encode_setBit b x, rfl, fun _ => decodeCb_setBit b x⟩
  | jrCc cc _ | retCc cc => cases cc <;> exact ⟨_, _, rfl, rfl, fun _ => rfl⟩
  | rst y => fin_cases y <;> exact ⟨_, _, rfl, rfl, fun _ => rfl⟩
  | invalid x => cases x <;> exact ⟨_, _, rfl, rfl, fun _ => rfl⟩
  | ldPair rr nn => cases rr <;> exact decodesBack_word (f := .ldPair _) _ rfl rfl fun _ _ => rfl
  | jpCc cc nn => cases cc <;> exact decodesBack_word (f := .jpCc _) _ rfl rfl fun _ _ => rfl
  | callCc cc nn => cases cc <;> exact decodesBack_word (f := .callCc _) _ rfl rfl fun _ _ => rfl
  | ldAtNnSp nn => exact decodesBack_word (f := .ldAtNnSp) _ rfl rfl fun _ _ => rfl
  | jpNn nn => exact decodesBack_word (f := .jpNn) _ rfl rfl fun _ _ => rfl
  | callNn nn => exact decodesBack_word (f := .callNn) _ rfl rfl fun _ _ => rfl
  | ldAtNnA nn => exact decodesBack_word (f := .ldAtNnA) _ rfl rfl fun _ _ => rfl
  | ldAAtNn nn => exact decodesBack_word (f := .ldAAtNn) _ rfl rfl fun _ _ => rfl
  | _ => exact ⟨_, _, rfl, rfl, fun _ => rfl⟩

/-- Settles O47: the bytes of the instruction are enough, and the decoder leaves what follows. -/
theorem decodeOfEncode : Obligations.DecodeOfEncode := by
  intro i rest
  obtain ⟨b0, bs, henc, hlen, hdec⟩ := decodesBack_all i
  have hroom : ¬ (bs ++ rest).length + 1 < lengthOf b0 := by
    rw [hlen, List.length_append]; omega
  rw [henc, List.cons_append, decodeBytes, if_neg hroom, hdec, hlen, Nat.add_sub_cancel,
    List.drop_left]

/-! ### Each window from its instruction -/

/-- A byte is its three fields (30_encoding R148). -/
theorem byte_fields (op : Byte) : op = byte (64 * fieldX op + 8 * fieldY op + fieldZ op) := by
  apply eq_byte
  rw [fieldX, fieldY, fieldZ]
  omega

theorem tableR_code {k : Nat} (h : k < 8) : (tableR k).code = k := by
  interval_cases k <;> rfl

theorem tableAlu_code {k : Nat} (h : k < 8) : (tableAlu k).code = k := by
  interval_cases k <;> rfl

theorem tableRot_code {k : Nat} (h : k < 8) : (tableRot k).code = k := by
  interval_cases k <;> rfl

theorem fieldX_lt (op : Byte) : fieldX op < 4 := by rw [fieldX]; omega
theorem fieldY_lt (op : Byte) : fieldY op < 8 := Nat.mod_lt _ (by decide)
theorem fieldZ_lt (op : Byte) : fieldZ op < 8 := Nat.mod_lt _ (by decide)

/-- The second table: the operands encode to the byte they are decoded from (30_encoding R158). -/
theorem encode_decodeCb (b1 : Byte) : encode (decodeCb b1) = [0xCB#8, b1] := by
  have hy := fieldY_lt b1
  have hr : (tableR (fieldZ b1)).code = fieldZ b1 := tableR_code (fieldZ_lt b1)
  have hb : (Fin.ofNat 8 (fieldY b1)).val = fieldY b1 := Nat.mod_eq_of_lt hy
  have hx := fieldX_lt b1
  rw [decodeCb]
  conv_rhs => rw [byte_fields b1]
  match fieldX b1, hx with
  | 0, _ => exact (encode_rot _ _).trans (by rw [tableRot_code hy, hr, Nat.mul_zero, Nat.zero_add])
  | 1, _ => exact (encode_bit _ _).trans (by rw [hb, hr])
  | 2, _ => exact (encode_res _ _).trans (by rw [hb, hr])
  | 3, _ => exact (encode_setBit _ _).trans (by rw [hb, hr])

/-- The patterns `00 yyy zzz`, whose immediate is the next byte or the word `nn` (30_encoding R157). -/
theorem encode_decodeX0 {y z : Nat} (hy : y < 8) (hz : z < 8) (nn : Word) :
    encode (decodeX0 y z (loByte nn) nn) =
      [byte (64 * 0 + 8 * y + z), loByte nn, hiByte nn].take
        (lengthOf (byte (64 * 0 + 8 * y + z))) := by
  interval_cases y <;> interval_cases z <;> rfl

/-- The patterns `01 yyy zzz` take no immediate (30_encoding R157). -/
theorem encode_decodeX1 {y z : Nat} (hy : y < 8) (hz : z < 8) :
    encode (decodeX1 y z) = [byte (64 * 1 + 8 * y + z)] := by
  interval_cases y <;> interval_cases z <;> rfl

/-- The patterns `10 yyy zzz` are the accumulator operations (30_encoding R157). -/
theorem encode_decodeX2 {y z : Nat} (hy : y < 8) (hz : z < 8) :
    encode (.alu (tableAlu y) (tableR z)) = [byte (64 * 2 + 8 * y + z)] := by
  rw [encode_alu, tableAlu_code hy, tableR_code hz]

/-- The patterns `11 yyy zzz`: the byte 0xCB opens the second table (30_encoding R147, R157). -/
theorem encode_decodeX3 {y z : Nat} (hy : y < 8) (hz : z < 8) (nn : Word) :
    encode (decodeX3 y z (loByte nn) nn) =
      [byte (64 * 3 + 8 * y + z), loByte nn, hiByte nn].take
        (lengthOf (byte (64 * 3 + 8 * y + z))) := by
  match z, hz with
  | 0, _ | 1, _ | 2, _ | 4, _ | 5, _ | 6, _ | 7, _ => interval_cases y <;> rfl
  | 3, _ =>
    match y, hy with
    | 1, _ => exact encode_decodeCb (loByte nn)
    | 0, _ | 2, _ | 3, _ | 4, _ | 5, _ | 6, _ | 7, _ => rfl

/-- A byte from 0x40 to 0xBF is a whole instruction (30_encoding R162). -/
theorem lengthOf_middle :
    ∀ b0 : Byte, fieldX b0 = 1 ∨ fieldX b0 = 2 → lengthOf b0 = 1 := by decide

/-- Settles O48: the four blocks of the table, the immediates read as one word. -/
theorem encodeOfDecode : Obligations.EncodeOfDecode := by
  intro b0 b1 b2
  have hx := fieldX_lt b0
  have hy := fieldY_lt b0
  have hz := fieldZ_lt b0
  have hfields := byte_fields b0
  have hX0 := encode_decodeX0 hy hz (join b2 b1)
  have hX3 := encode_decodeX3 hy hz (join b2 b1)
  rw [loByte_join, hiByte_join] at hX0 hX3
  rw [decode]
  match hX : fieldX b0, hx with
  | 0, _ => rw [hX] at hfields; rwa [← hfields] at hX0
  | 1, _ =>
    rw [hX] at hfields
    rw [lengthOf_middle b0 (.inl hX)]
    exact (encode_decodeX1 hy hz).trans (congrArg ([·]) hfields.symm)
  | 2, _ =>
    rw [hX] at hfields
    rw [lengthOf_middle b0 (.inr hX)]
    exact (encode_decodeX2 hy hz).trans (congrArg ([·]) hfields.symm)
  | 3, _ => rw [hX] at hfields; rwa [← hfields] at hX3

/-- Settles O49: the decoder computes each word. -/
theorem writtenWordsDecode : Obligations.WrittenWordsDecode := by
  unfold Obligations.WrittenWordsDecode
  decide

end Sys2Proof.Machine
end

section
/-! PROOFS. What one bus write leaves unchanged (20_memory R61, R77, R115, R128, R136), and the byte it
stores in the RAM banks (R77). -/

namespace Sys2Proof.Machine

/-! ### What a read of the core depends on -/

/-- The byte held at `x` is decided by the routing of `x` and by the storage behind the device there. -/
theorem peek_congr {s t : State} {x : Word} (hroute : t.route x = s.route x)
    (hparams : t.params = s.params) (hcart : t.cart.get8 s.params x = s.cart.get8 s.params x)
    (hram : ramBanksGet8 t x = ramBanksGet8 s x) (hint : interruptGet8 t x = interruptGet8 s x)
    (hboot : t.bootRom = s.bootRom) : t.peek x = s.peek x := by
  have hbyte : bootByte t x = bootByte s x := by rw [bootByte, bootByte, hboot]
  simp only [State.peek, hroute, hparams, hcart, hram, hint, hbyte]

/-- The routing of an address depends on the wiring, on the overlay latch under the overlay alone
(20_memory R70, R78). -/
theorem route_congr_of_overlay {s t : State} {x : Word} (hmap : t.map = s.map)
    (hslots : t.slots = s.slots) (hparams : t.params = s.params)
    (hov : t.bootOverlay = s.bootOverlay ∨ inOverlay s.params.revision x = false) :
    t.route x = s.route x := by
  obtain hov | hout := hov
  · exact route_congr ⟨hmap, hslots, hparams, hov⟩ x
  · simp only [State.route, State.getId, hmap, hslots, hparams, hout, Bool.and_false,
      Bool.false_eq_true, if_false]

/-! ### The cartridge -/

/-- The addresses whose byte a control write can change: the switched ROM bank and the RAM window
(20_memory R115, R128). -/
theorem Cart.get8_control (c : Cart) (p : Params) (m : Mbc) {x : Word}
    (hbank : ¬(0x4000 ≤ x.toNat ∧ x.toNat ≤ 0x7FFF)) (hwindow : inRamWindow x = false) :
    Cart.get8 p { c with mbc := m } x = c.get8 p x := by
  simp only [Cart.get8, hwindow, Bool.false_eq_true, if_false, inRomArea, decide_eq_true_iff]
  split
  · have hlow : x.toNat ≤ 0x3FFF := by omega
    rw [Cart.romOffset_low _ hlow, Cart.romOffset_low _ hlow]
  · rfl

/-- A store to the RAM window writes its own cell at most (20_memory R126, R128). -/
theorem Cart.ramWrite_cases (c : Cart) (p : Params) (a : Word) (v : Byte) :
    c.ramWrite p a v = c ∨ ∃ w, c.ramWrite p a v = { c with ram := c.ram.write (c.ramIndex a) w } := by
  unfold Cart.ramWrite
  split
  · exact .inl rfl
  · split
    · exact .inl rfl
    · split
      · exact .inl rfl
      · split
        · exact .inr ⟨_, rfl⟩
        · exact .inr ⟨_, rfl⟩

/-- A store to the RAM window leaves the image and the other cells (20_memory R128, R136). -/
theorem Cart.get8_ramWrite (c : Cart) (p : Params) (a : Word) (v : Byte) {x : Word}
    (hother : inRamWindow x = true → c.ramIndex x ≠ c.ramIndex a) :
    (c.ramWrite p a v).get8 p x = c.get8 p x := by
  obtain h | ⟨w, h⟩ := c.ramWrite_cases p a v
  · rw [h]
  · rw [h]
    unfold Cart.get8
    split
    · rfl
    · split
      · next hx =>
        have hindex : Cart.ramIndex { c with ram := c.ram.write (c.ramIndex a) w } x = c.ramIndex x := rfl
        simp only [Cart.ramRead, hindex, Memory.read_write_other _ _ w (hother hx)]
      · rfl

/-- A cartridge write leaves the bytes of the addresses it does not touch. -/
theorem Cart.get8_set8 {c d : Cart} {p : Params} {a x : Word} {v : Byte} (hd : c.set8 p a v = some d)
    (hx : (if inRomArea a then
        (decide (0x4000 ≤ x.toNat) && decide (x.toNat ≤ 0x7FFF)) || inRamWindow x
      else inRamWindow x && c.ramIndex x == c.ramIndex a) = false) : d.get8 p x = c.get8 p x := by
  unfold Cart.set8 at hd
  split at hd
  next ha =>
    cases hd
    simp only [ha, if_true, Bool.or_eq_false_iff] at hx
    exact c.get8_control p _ (by simpa using hx.1) hx.2
  next ha =>
    split at hd
    · cases hd
      refine c.get8_ramWrite p a v fun hw heq => ?_
      simp [ha, hw, heq] at hx
    · cases hd

/-! ### The RAM banks -/

/-- No address lies in both arrays (20_memory R77). -/
theorem wramIndex_of_hramIndex {a : Word} {j : Nat} (h : hramIndex a = some j) : wramIndex a = none := by
  unfold hramIndex at h
  split at h
  · unfold wramIndex; rw [if_neg (by omega), if_neg (by omega)]
  · cases h

/-- A store to the RAM banks writes one cell of one array (20_memory R77). -/
theorem ramBanksSet8_cases {s t : State} {a : Word} {v : Byte} (ht : ramBanksSet8 s a v = some t) :
    (∃ i, wramIndex a = some i ∧ t = { s with wram := s.wram.write i v }) ∨
      ∃ i, wramIndex a = none ∧ hramIndex a = some i ∧ t = { s with hram := s.hram.write i v } := by
  unfold ramBanksSet8 at ht
  split at ht
  next i ha => cases ht; exact .inl ⟨i, ha, rfl⟩
  next hw =>
    split at ht
    next i ha => cases ht; exact .inr ⟨i, hw, ha, rfl⟩
    next => cases ht

/-- A store to the RAM banks leaves every cell but its own (20_memory R77). -/
theorem ramBanksGet8_set8_other {s t : State} {a x : Word} {v : Byte}
    (ht : ramBanksSet8 s a v = some t) (hx : sameRamCell a x = false) :
    ramBanksGet8 t x = ramBanksGet8 s x := by
  simp only [sameRamCell, Bool.or_eq_false_iff] at hx
  obtain ⟨hw, hh⟩ := hx
  obtain ⟨i, ha, rfl⟩ | ⟨i, -, ha, rfl⟩ := ramBanksSet8_cases ht
  · rw [ha] at hw
    unfold ramBanksGet8
    cases hxw : wramIndex x with
    | some j =>
      have hne : j ≠ i := fun h => by simp [hxw, h] at hw
      exact congrArg some (Memory.read_write_other i j v hne)
    | none => rfl
  · rw [ha] at hh
    unfold ramBanksGet8
    cases wramIndex x with
    | some j => rfl
    | none =>
      cases hxh : hramIndex x with
      | some j =>
        have hne : j ≠ i := fun h => by simp [hxh, h] at hh
        exact congrArg some (Memory.read_write_other i j v hne)
      | none => rfl

/-- An owned address of the RAM banks takes a byte, and its cell reads it back (20_memory R77). -/
theorem ramBanksSet8_same {s : State} {a x : Word} (v : Byte) (hw : s.wram.wf = true)
    (hh : s.hram.wf = true) (hx : sameRamCell a x = true) :
    ∃ t, ramBanksSet8 s a v = some t ∧ ramBanksGet8 t x = some v := by
  simp only [sameRamCell, Bool.or_eq_true, Bool.and_eq_true, beq_iff_eq, Option.isSome_iff_exists] at hx
  obtain ⟨⟨i, ha⟩, hax⟩ | ⟨⟨i, ha⟩, hax⟩ := hx
  · refine ⟨{ s with wram := s.wram.write i v }, by rw [ramBanksSet8, ha], ?_⟩
    rw [ramBanksGet8, ← hax, ha]
    exact congrArg some (Memory.read_write_same i v hw)
  · refine ⟨{ s with hram := s.hram.write i v }, by rw [ramBanksSet8, wramIndex_of_hramIndex ha, ha], ?_⟩
    rw [ha] at hax
    rw [ramBanksGet8, wramIndex_of_hramIndex hax.symm, ← hax]
    exact congrArg some (Memory.read_write_same i v hh)

/-! ### The interrupt controller -/

/-- A store to the controller writes the mask at its address (60_exceptions R346). -/
theorem interruptSet8_cases {s t : State} {a : Word} {v : Byte} (ht : interruptSet8 s a v = some t) :
    (a = 0xFFFF#16 ∧ t = { s with intEnable := v }) ∨
      (a = 0xFF0F#16 ∧ t = { s with intRequest := v }) := by
  unfold interruptSet8 at ht
  split at ht
  next ha => cases ht; exact .inl ⟨ha, rfl⟩
  next =>
    split at ht
    next ha => cases ht; exact .inr ⟨ha, rfl⟩
    next => cases ht

/-- A store to a mask leaves the other mask (60_exceptions R346). -/
theorem interruptGet8_set8_other {s t : State} {a x : Word} {v : Byte}
    (ht : interruptSet8 s a v = some t) (hx : (x == a) = false) :
    interruptGet8 t x = interruptGet8 s x := by
  have hne : x ≠ a := by simpa using hx
  obtain ⟨rfl, rfl⟩ | ⟨rfl, rfl⟩ := interruptSet8_cases ht <;>
    simp only [interruptGet8, if_neg hne]

/-! ### One bus write -/

/-- A device's write leaves the bytes of the addresses it does not touch. -/
theorem deviceSet8_peek {s : State} {d : DeviceId} {a x : Word} (v : Byte)
    (hi : intercept s.params.revision a = none) (hr : s.route a = .ok d)
    (hx : s.touches a x = false) : (deviceSet8 d a v s).state.peek x = s.peek x := by
  simp only [State.touches, hi, hr] at hx
  cases d <;> simp only [deviceSet8] at hx ⊢
  case cartridge =>
    split
    next c hc => exact peek_congr rfl rfl (Cart.get8_set8 hc hx) rfl rfl rfl
    next => rfl
  case ramBanks =>
    split
    next t ht =>
      have hram := ramBanksGet8_set8_other ht hx
      obtain ⟨i, -, rfl⟩ | ⟨i, -, -, rfl⟩ := ramBanksSet8_cases ht <;>
        exact peek_congr rfl rfl rfl hram rfl rfl
    next => rfl
  case interruptController =>
    split
    next t ht =>
      have hint := interruptGet8_set8_other ht hx
      obtain ⟨-, rfl⟩ | ⟨-, rfl⟩ := interruptSet8_cases ht <;>
        exact peek_congr rfl rfl rfl rfl hint rfl
    next => rfl
  all_goals rfl

/-- A bus write, completed or not, leaves the bytes of the addresses it does not touch. -/
theorem busWrite_peek {s : State} {a x : Word} (v : Byte) (hx : s.touches a x = false) :
    (busWrite a v s).state.peek x = s.peek x := by
  unfold busWrite
  split
  next =>
    obtain ⟨m, l, h⟩ := dmaCopy_state (join v 0x00#8) .spriteTable 160 0 s
    rw [spriteDma, h]; rfl
  next =>
    unfold vramBlockTransfer
    split
    · rfl
    · obtain ⟨m, l, h⟩ := syncBlockTransfer_state (blockLength v) s
      rw [h]; rfl
  next hi =>
    simp only [State.touches, hi] at hx
    simp only [bootDisable, Eff.state_done]
    split
    · exact peek_congr (route_congr_of_overlay rfl rfl rfl (.inr hx)) rfl rfl rfl rfl rfl
    · rfl
  next hi =>
    split
    next d hr => exact deviceSet8_peek v hi hr hx
    next => rfl

/-- `t` has the masks of `s` but for the one whose address is `a` (60_exceptions R346). -/
def MasksKept (a : Word) (s t : State) : Prop :=
  (s.intEnable ≠ t.intEnable → a = 0xFFFF#16) ∧ (s.intRequest ≠ t.intRequest → a = 0xFF0F#16)

theorem MasksKept.of_eq {a : Word} {s t : State} (hE : s.intEnable = t.intEnable)
    (hF : s.intRequest = t.intRequest) : MasksKept a s t :=
  ⟨fun h => absurd hE h, fun h => absurd hF h⟩

/-- A device's write changes a mask at that mask's address alone (60_exceptions R346). -/
theorem deviceSet8_masks (d : DeviceId) (a : Word) (v : Byte) (s : State) :
    MasksKept a s (deviceSet8 d a v s).state := by
  cases d <;> simp only [deviceSet8]
  case cartridge => split <;> exact .of_eq rfl rfl
  case ramBanks =>
    split
    next t ht =>
      obtain ⟨i, -, rfl⟩ | ⟨i, -, -, rfl⟩ := ramBanksSet8_cases ht <;> exact .of_eq rfl rfl
    next => exact .of_eq rfl rfl
  case interruptController =>
    split
    next t ht =>
      obtain ⟨ha, rfl⟩ | ⟨ha, rfl⟩ := interruptSet8_cases ht
      · exact ⟨fun _ => ha, fun h => absurd rfl h⟩
      · exact ⟨fun h => absurd rfl h, fun _ => ha⟩
    next => exact .of_eq rfl rfl
  all_goals exact .of_eq rfl rfl

/-- A bus write changes a mask at that mask's address alone (60_exceptions R346). -/
theorem busWrite_masks (a : Word) (v : Byte) (s : State) : MasksKept a s (busWrite a v s).state := by
  unfold busWrite
  split
  next =>
    obtain ⟨m, l, h⟩ := dmaCopy_state (join v 0x00#8) .spriteTable 160 0 s
    rw [spriteDma, h]; exact .of_eq rfl rfl
  next =>
    unfold vramBlockTransfer
    split
    · exact .of_eq rfl rfl
    · obtain ⟨m, l, h⟩ := syncBlockTransfer_state (blockLength v) s
      rw [h]; exact .of_eq rfl rfl
  next =>
    simp only [bootDisable, Eff.state_done]
    split <;> exact .of_eq rfl rfl
  next =>
    split
    · exact deviceSet8_masks _ a v s
    · exact .of_eq rfl rfl

/-- Settles O34: the frame of the bytes, of the core, and of the two masks. -/
theorem busWriteFrame : Obligations.BusWriteFrame := by
  intro a v s u h
  have hcore := busWrite_done h
  have hpeek := fun x => busWrite_peek (s := s) (a := a) (x := x) v
  have hmasks := busWrite_masks a v s
  rw [h] at hpeek hmasks
  exact ⟨hpeek, hcore.regs, hcore.ime, hcore.imeSched, hcore.halted, hcore.stopped, hcore.fatal,
    hcore.rom, hmasks.1, hmasks.2⟩

/-! ### The RAM banks on the bus -/

/-- No address of the RAM banks is intercepted (20_memory R61, R77). -/
theorem intercept_ramBanks (rev : Revision) {a : Word} (h : deviceOwns .ramBanks a = true) :
    intercept rev a = none := by
  have hne {b : Word} (hb : deviceOwns .ramBanks b = false) : a ≠ b := fun e => by
    rw [e, hb] at h; cases h
  rw [intercept, if_neg (hne (by decide)), if_neg fun hc => hne (by decide) hc.1,
    if_neg (hne (by decide))]

/-- A byte stored in the RAM banks is the byte of its cell afterwards, at every address of the cell
(20_memory R77). -/
theorem busWrite_inRam {s : State} {a x : Word} (v : Byte) (hinv : s.inv = true) (ha : s.inRam a)
    (hx : s.inRam x) (hax : sameRamCell a x = true) :
    ∃ u, busWrite a v s = .done () u ∧ u.peek x = some v := by
  obtain ⟨-, ⟨hw, -⟩, ⟨hh, -⟩, -⟩ := s.inv_iff.mp hinv
  obtain ⟨t, ht, hread⟩ := ramBanksSet8_same v hw hh hax
  have hdone : busWrite a v s = .done () t := by
    rw [busWrite_of_route v (intercept_ramBanks _ ha.2) ha.1, deviceSet8, ht]
  have hroute : t.route x = .ok .ramBanks := by
    obtain ⟨i, -, rfl⟩ | ⟨i, -, -, rfl⟩ := ramBanksSet8_cases ht <;> exact hx.1
  exact ⟨t, hdone, by rw [State.peek, hroute]; exact hread⟩

/-- Settles O56: the byte of the cell is read without a side effect. -/
theorem ramBanksReadBack : Obligations.RamBanksReadBack := by
  intro s a x v hinv ha hx hax
  obtain ⟨u, hwrite, hpeek⟩ := busWrite_inRam v hinv ha hx hax
  exact ⟨u, hwrite, busRead_of_peek hpeek⟩

end Sys2Proof.Machine
end

section
/-! PROOFS. The wiring of a built machine (70_reset_and_hazards R400, 20_memory R75): every access of it
completes, and no access ends it. -/

namespace Sys2Proof.Machine

/-! ### The addresses each device owns -/

theorem deviceOwns_cartridge (a : Word) : deviceOwns .cartridge a = true ↔
    a.toNat ≤ 0x7FFF ∨ (0xA000 ≤ a.toNat ∧ a.toNat ≤ 0xBFFF) := by
  simp only [deviceOwns, inRomArea, inRamWindow, Bool.or_eq_true, Bool.and_eq_true, decide_eq_true_iff]

theorem deviceOwns_ramBanks (a : Word) : deviceOwns .ramBanks a = true ↔
    (0xC000 ≤ a.toNat ∧ a.toNat ≤ 0xFDFF) ∨ (0xFF80 ≤ a.toNat ∧ a.toNat ≤ 0xFFFE) := by
  simp only [deviceOwns, wramIndex, hramIndex, Bool.or_eq_true]
  split_ifs <;> simp <;> omega

theorem deviceOwns_interruptController (a : Word) : deviceOwns .interruptController a = true ↔
    a.toNat = 0xFFFF ∨ a.toNat = 0xFF0F := by
  simp only [deviceOwns, Bool.or_eq_true, beq_iff_eq, ← BitVec.toNat_inj]
  rfl

/-! ### The default map -/

/-- The owner of an address is a registration that covers it (20_memory R70). -/
theorem mapLookup_mem {rs : List Registration} {a : Word} {d : DeviceId}
    (h : mapLookup rs a = some d) : ∃ r ∈ rs, covers r a = true ∧ r.dev = d := by
  induction rs with
  | nil => cases h
  | cons r rs ih =>
    rw [mapLookup] at h
    cases hrs : mapLookup rs a with
    | some e =>
      rw [hrs] at h
      cases h
      obtain ⟨q, hq, hcov⟩ := ih hrs
      exact ⟨q, List.mem_cons_of_mem r hq, hcov⟩
    | none =>
      rw [hrs] at h
      by_cases hc : covers r a = true
      · simp only [if_pos hc, Option.some.injEq] at h
        exact ⟨r, List.mem_cons_self, hc, h⟩
      · simp only [if_neg hc, reduceCtorEq] at h

/-- An address that some registration covers has an owner (20_memory R70). -/
theorem mapLookup_ne_none {rs : List Registration} {a : Word} {r : Registration} (hr : r ∈ rs)
    (hc : covers r a = true) : mapLookup rs a ≠ none := by
  induction rs with
  | nil => cases hr
  | cons q rs ih =>
    rw [mapLookup]
    cases hrs : mapLookup rs a with
    | some e => exact Option.some_ne_none e
    | none =>
      obtain rfl | hmem := List.mem_cons.mp hr
      · simp [hc]
      · exact absurd hrs (ih hmem)

/-- The registrations follow each other from address `lo` up to, not including, `hi`. -/
def gapless : Nat → List Registration → Nat → Bool
  | lo, [], hi => lo == hi
  | lo, r :: rs, hi => r.start == lo && gapless (lo + r.length) rs hi

theorem covers_of_gapless {rs : List Registration} {lo hi : Nat} {a : Word}
    (h : gapless lo rs hi = true) (hlo : lo ≤ a.toNat) (hhi : a.toNat < hi) :
    ∃ r ∈ rs, covers r a = true := by
  induction rs generalizing lo with
  | nil => rw [gapless, beq_iff_eq] at h; omega
  | cons r rs ih =>
    rw [gapless, Bool.and_eq_true, beq_iff_eq] at h
    by_cases hin : a.toNat < lo + r.length
    · exact ⟨r, List.mem_cons_self, (covers_iff r a).mpr (by omega)⟩
    · obtain ⟨q, hq, hc⟩ := ih h.2 (by omega)
      exact ⟨q, List.mem_cons_of_mem r hq, hc⟩

/-- The default map names no device for an address that the device does not own (20_memory R75). -/
theorem defaultMap_owned (a : Word) :
    ∀ r ∈ defaultMap, covers r a = true → deviceOwns r.dev a = true := by
  simp only [defaultMap, defaultMapLow, defaultMapHigh, List.cons_append, List.nil_append,
    List.forall_mem_cons, covers_iff, deviceOwns_cartridge, deviceOwns_ramBanks,
    deviceOwns_interruptController]
  simp only [deviceOwns, implies_true, true_and, and_true, List.not_mem_nil, false_imp_iff]
  omega

/-- Every address has an owner in the default map, and it is not the boot ROM (20_memory R75). -/
theorem mapLookup_defaultMap (a : Word) :
    ∃ d, mapLookup defaultMap a = some d ∧ d ≠ .bootRom ∧ deviceOwns d a = true := by
  have hgap : gapless 0 defaultMap 0x10000 = true := by decide
  have hboot : ∀ r ∈ defaultMap, r.dev ≠ .bootRom := by decide
  obtain ⟨r, hr, hc⟩ := covers_of_gapless hgap (Nat.zero_le _) a.isLt
  obtain ⟨d, hd⟩ := Option.ne_none_iff_exists'.mp (mapLookup_ne_none hr hc)
  obtain ⟨q, hq, hqc, rfl⟩ := mapLookup_mem hd
  exact ⟨q.dev, hd, hboot q hq, defaultMap_owned a q hq hqc⟩

/-! ### A wired machine -/

theorem State.wired_iff (s : State) : s.wired = true ↔
    s.map = defaultMap ∧ ∀ d ∈ builtSlots s.bootOverlay, d ∈ s.slots := by
  simp only [State.wired, Bool.and_eq_true, beq_iff_eq, List.all_eq_true, List.contains_iff_mem]

/-- Every device but the boot ROM has its slot (70_reset_and_hazards R400 step 7). -/
theorem mem_builtSlots (b : Bool) (d : DeviceId) : d ∈ builtSlots b ↔ d ≠ .bootRom ∨ b = true := by
  cases b <;> cases d <;> decide

/-- An owner whose slot is filled answers (20_memory R70, R71). -/
theorem route_of_getId {s : State} {a : Word} {d : DeviceId} (h : s.getId a = some d)
    (hd : d ∈ s.slots) : s.route a = .ok d := by
  rw [State.route, h]
  exact if_pos (List.contains_iff_mem.mpr hd)

/-- A wired machine routes every address to a device that owns it: under the overlay the boot ROM,
elsewhere the owner of the default map. -/
theorem readable_of_wired {s : State} (h : s.wired = true) (a : Word) : s.readable a = true := by
  obtain ⟨hmap, hslots⟩ := s.wired_iff.mp h
  have hroute : ∃ d, s.route a = .ok d ∧ deviceOwns d a = true := by
    by_cases hov : (s.bootOverlay && inOverlay s.params.revision a) = true
    · have hid : s.getId a = some .bootRom := if_pos hov
      have hon : s.bootOverlay = true := (Bool.and_eq_true_iff.mp hov).1
      exact ⟨.bootRom, route_of_getId hid (hslots _ ((mem_builtSlots _ _).mpr (.inr hon))), rfl⟩
    · obtain ⟨d, hd, hne, hown⟩ := mapLookup_defaultMap a
      have hid : s.getId a = some d := (if_neg hov).trans (by rw [hmap, hd])
      exact ⟨d, route_of_getId hid (hslots d ((mem_builtSlots _ _).mpr (.inl hne))), hown⟩
  obtain ⟨d, hd, hown⟩ := hroute
  rw [State.readable, hd]
  exact hown

theorem readableFrom_of_wired {s : State} (h : s.wired = true) (src : Word) (n i : Nat) :
    s.readableFrom src n i = true := by
  induction n generalizing i with
  | zero => rfl
  | succ n ih => rw [State.readableFrom, readable_of_wired h, ih, Bool.true_and]

theorem writable_of_wired {s : State} (h : s.wired = true) (a : Word) (v : Byte) :
    s.writable a v = true := by
  unfold State.writable
  split
  · exact readableFrom_of_wired h _ _ _
  · rw [readableFrom_of_wired h, Bool.or_true]
  · rfl
  · exact readable_of_wired h a

/-! ### Accesses of a wired machine -/

/-- The fatal condition an operation raises, if it raises one. -/
def Eff.fault {α : Type} (x : Eff α) : Option Fatal :=
  match x with
  | .done _ _ => none
  | .raise k _ => some k

section fault
variable {α : Type} (v : α) (k : Fatal) (s : State)

@[simp] theorem Eff.fault_done : (Eff.done v s).fault = none := rfl
@[simp] theorem Eff.fault_raise : (Eff.raise k s : Eff α).fault = some k := rfl

end fault

/-- What no bus access changes is all that the wiring depends on, but for the overlay, which an access
can only remove. -/
theorem SameCore.wired {s t : State} (h : SameCore s t) (hs : s.wired = true) : t.wired = true := by
  obtain ⟨hmap, hslots⟩ := s.wired_iff.mp hs
  refine t.wired_iff.mpr ⟨h.map.trans hmap, fun d hd => ?_⟩
  rw [h.slots]
  exact hslots d ((mem_builtSlots _ _).mpr (((mem_builtSlots _ _).mp hd).imp_right h.overlayOff))

theorem busRead_fault_of_wired {s : State} (h : s.wired = true) (a : Word) :
    (busRead a s).fault = none := by
  obtain ⟨v, n, hd⟩ := busRead_readable (readable_of_wired h a)
  rw [hd, Eff.fault_done]

theorem busWrite_fault_of_wired {s : State} (h : s.wired = true) (a : Word) (v : Byte) :
    (busWrite a v s).fault = none := by
  obtain ⟨u, hd⟩ := busWrite_writable (writable_of_wired h a v)
  rw [hd, Eff.fault_done]

/-- The first write of a word leaves the machine wired for the second (20_memory R63). -/
theorem busWrite16_fault_of_wired {s : State} (h : s.wired = true) (a v : Word) :
    (busWrite16 a v s).fault = none := by
  obtain ⟨u, hd⟩ := busWrite_writable (writable_of_wired h (a + 1#16) (hiByte v))
  rw [busWrite16, hd, Eff.bind_done]
  exact busWrite_fault_of_wired ((busWrite_done hd).wired h) a _

/-- The first write of a push leaves the machine wired for the second (41_load16 R210). -/
theorem push16_fault_of_wired {s : State} (h : s.wired = true) (v : Word) :
    (push16 v s).fault = none := by
  have hsp : (s.setSp (s.regs.sp - 1#16)).wired = true := h
  obtain ⟨u, hd⟩ := busWrite_writable (writable_of_wired hsp (s.regs.sp - 1#16) (hiByte v))
  have hu : (u.setSp (u.regs.sp - 1#16)).wired = true := (busWrite_done hd).wired hsp
  simp only [push16, State.setSp_regs, hd, Eff.bind_done]
  exact busWrite_fault_of_wired hu _ _

end Sys2Proof.Machine
end

section
/-! PROOFS. What an instruction can do, once for all of the table: the accesses it makes, completed or
not, and how its rule ends. The whole-machine statements are read off from it. -/

namespace Sys2Proof.Machine

/-! ### The accesses of an instruction -/

/-- The operation leaves the state `w`, with the fatal condition `f` raised or none. -/
def Eff.Leaves {α : Type} (x : Eff α) (f : Option Fatal) (w : State) : Prop :=
  x.fault = f ∧ x.state = w

/-- What the accesses of `i` make of `s`: reads alone, and a read that is fatal ends them; or the one
store at the address of `storeAddr`; or the two of `LD (nn),SP` or of a push; an invalid byte makes
none and is fatal itself. -/
inductive Accesses (i : Instr) (s : State) : Option Fatal → State → Prop
  | reads (n : Nat) (h16 : i.storeAddr16 s = none) : Accesses i s none { s with extReads := n }
  | readRaises (a : Word) (n : Nat) (k : Fatal) (h16 : i.storeAddr16 s = none)
      (hr : busRead a { s with extReads := n } = .raise k { s with extReads := n }) :
      Accesses i s (some k) { s with extReads := n }
  | byteStore (a : Word) (v : Byte) (n : Nat) {f : Option Fatal} {w : State}
      (ha : i.storeAddr s = some a) (h16 : i.storeAddr16 s = none)
      (hw : (busWrite a v { s with extReads := n }).Leaves f w) : Accesses i s f w
  | wordStore (nn : Word) {f : Option Fatal} {w : State} (hi : i = .ldAtNnSp nn)
      (hw : (busWrite16 nn s.regs.sp s).Leaves f w) : Accesses i s f w
  | push (v : Word) {f : Option Fatal} {w : State} (ha : i.storeAddr s = none)
      (h16 : i.storeAddr16 s = some (s.regs.sp - 2#16)) (hne : ∀ nn, i ≠ .ldAtNnSp nn)
      (hw : (push16 v s).Leaves f w) : Accesses i s f w
  | invalid (x : BadByte) (hi : i = .invalid x) (h16 : i.storeAddr16 s = none) :
      Accesses i s (some (.invalidOpcode s.regs.pc x.code)) s

theorem SameCore.sameButSp {s t : State} (h : SameCore s t) : SameButSp s t := by
  have hsp : s.setSp t.regs.sp = s := by rw [h.regs]; rfl
  rw [SameButSp, hsp]
  exact h

/-- Reads and byte stores leave the core; a push moves `SP` besides. -/
theorem Accesses.sameButSp {i : Instr} {s w : State} {f : Option Fatal} (h : Accesses i s f w) :
    SameButSp s w := by
  cases h with
  | reads n _ => exact (SameCore.of_extReads s n).sameButSp
  | readRaises a n k _ _ => exact (SameCore.of_extReads s n).sameButSp
  | byteStore a v n _ _ hw =>
    rw [← hw.2]
    exact ((SameCore.of_extReads s n).trans (busWrite_sameCore a v _)).sameButSp
  | wordStore nn _ hw => rw [← hw.2]; exact (busWrite16_sameCore nn _ s).sameButSp
  | push v _ _ _ hw => rw [← hw.2]; exact push16_sameButSp v s
  | invalid x _ _ => exact (SameCore.rfl' s).sameButSp

/-! ### The end of a rule -/

/-- `n` is what the table says that `i` costs from `s`: of a conditional one the cost by its condition
(45_control_flow R310). -/
def Costs (i : Instr) (s : State) (n : Nat) : Prop :=
  (i.cyclesNotTaken = none → i.cycles = some n) ∧
    (i.cyclesNotTaken ≠ none →
      ∃ cc : Cond, ((encode i).headD 0#8).toNat / 8 % 4 = cc.code ∧
        (s.cond cc = true → i.cycles = some n) ∧ (s.cond cc = false → i.cyclesNotTaken = some n))

/-- What holds of the register file, the target and the cost with which any rule ends: `F` stays or is
written by a row of the flag table with a zero low nibble (10_state R24, R46), `pc` advances unless the
rule redirects it (R28). -/
structure Closing (i : Instr) (s : State) (g : RegFile) (p : Word) (n : Nat) : Prop where
  flags : g.f = s.regs.f ∨ (i.writesFlags = true ∧ g.f &&& 0x0F#8 = 0x00#8)
  pc : i.redirects = false → p = s.next i.len
  cost : Costs i s n

/-- The latches, which the control instructions alone write (46_cpu_control R330). -/
structure LatchRule (i : Instr) (s t : State) : Prop where
  halted : t.halted ≠ s.halted → i = .halt
  stopped : t.stopped ≠ s.stopped → ∃ n, i = .stop n
  ime : t.ime ≠ s.ime → i = .di ∨ i = .reti
  imeSched : t.imeSched ≠ s.imeSched → i = .di ∨ i = .ei
  haltBug : t.haltBugArmed = true → s.params.haltBug = true

/-- The registers that a byte store changes: `F`, `HL` of the two auto-pointer forms, `pc`. -/
structure ByteStoreRegs (i : Instr) (s : State) (g : RegFile) : Prop where
  keeps : g = { s.regs with f := g.f, h := g.h, l := g.l, pc := g.pc }
  pointer : i ≠ .ldAtHlIncA → i ≠ .ldAtHlDecA → g.h = s.regs.h ∧ g.l = s.regs.l

/-- The registers that a word store changes: `SP` of a push, `pc`. -/
structure WordStoreRegs (i : Instr) (s : State) (g : RegFile) : Prop where
  keeps : g = { s.regs with sp := g.sp, pc := g.pc }
  sp : ∀ nn, i = .ldAtNnSp nn → g.sp = s.regs.sp

/-- `t` is the state `w`, which the accesses left, at the end of the rule. -/
structure EndsAs (i : Instr) (s w t : State) : Prop where
  frame : t = { w with regs := t.regs, ime := t.ime, imeSched := t.imeSched, halted := t.halted,
                       stopped := t.stopped, lastCycles := t.lastCycles,
                       haltBugArmed := t.haltBugArmed }
  closing : Closing i s t.regs t.regs.pc t.lastCycles
  latches : LatchRule i s t
  byteRegs : i.storeAddr s ≠ none → ByteStoreRegs i s t.regs
  wordRegs : i.storeAddr16 s ≠ none → WordStoreRegs i s t.regs

/-- What `exec` answers: its accesses completed and the rule ended, or they were fatal. -/
inductive Executes (i : Instr) (s : State) : Out → Prop
  | completes {w t : State} (ha : Accesses i s none w) (he : EndsAs i s w t) : Executes i s (.next t)
  | raises {k : Fatal} {w : State} (ha : Accesses i s (some k) w) : Executes i s (.next (w.raised k))

/-- The rule stores nothing in memory from `s`. -/
def Quiet (i : Instr) (s : State) : Prop := i.storeAddr s = none ∧ i.storeAddr16 s = none

section build
variable {i : Instr} {s w t : State} {g : RegFile} {p : Word} {n : Nat}

/-- Latches that are as before, with the `HALT` bug spent. -/
theorem LatchRule.of_kept (hh : t.halted = s.halted) (hs : t.stopped = s.stopped)
    (hi : t.ime = s.ime) (hq : t.imeSched = s.imeSched) (hb : t.haltBugArmed = false) :
    LatchRule i s t where
  halted h := absurd hh h
  stopped h := absurd hs h
  ime h := absurd hi h
  imeSched h := absurd hq h
  haltBug h := by rw [hb] at h; cases h

/-- A rule that ends as most do, with a register file, a target and a cost. -/
theorem EndsAs.of_ends (hw : SameButSp s w) (hc : Closing i s g p n)
    (hbyte : i.storeAddr s ≠ none → ByteStoreRegs i s { g with pc := p })
    (hword : i.storeAddr16 s ≠ none → WordStoreRegs i s { g with pc := p }) :
    EndsAs i s w (w.ends g p n) :=
  ⟨rfl, ⟨hc.flags, hc.pc, hc.cost⟩, .of_kept hw.halted hw.stopped hw.ime hw.imeSched rfl, hbyte, hword⟩

theorem EndsAs.of_quiet (hq : Quiet i s) (hw : SameButSp s w) (hc : Closing i s g p n) :
    EndsAs i s w (w.ends g p n) :=
  .of_ends hw hc (fun h => absurd hq.1 h) (fun h => absurd hq.2 h)

end build

/-! ### The kinds of access -/

section kinds
variable {i : Instr} {s t : State} {a : Word} {v : Byte}

/-- A rule that makes no access. -/
theorem Executes.of_next (hq : Quiet i s) (h : EndsAs i s s t) : Executes i s (.next t) :=
  .completes (.reads s.extReads hq.2) h

/-- A rule that reads one byte. -/
theorem Executes.of_read {f : Byte → State → State} (h16 : i.storeAddr16 s = none)
    (h : ∀ v u, SameCore s u → EndsAs i s u (f v u)) : Executes i s ((busRead a s).andThen f) := by
  obtain ⟨v, n, hd⟩ | ⟨k, hr⟩ := busRead_cases a s
  · rw [hd]
    exact .completes (.reads n h16) (h v _ (SameCore.of_extReads s n))
  · rw [hr]
    exact .raises (.readRaises a s.extReads k h16 hr)

/-- A rule that reads an operand. -/
theorem Executes.of_readLoc {x : Loc} {f : Byte → State → State} (h16 : i.storeAddr16 s = none)
    (h : ∀ v u, SameCore s u → EndsAs i s u (f v u)) : Executes i s ((readLoc x s).andThen f) := by
  cases x with
  | reg r => exact .completes (.reads s.extReads h16) (h _ s (SameCore.rfl' s))
  | atHl => exact .of_read h16 h

/-- The reads of a pop, and the read of the two that is fatal (20_memory R62, 41_load16 R210). -/
theorem pop16_reads (s : State) :
    (∃ v n, pop16 s = .done v ({ s with extReads := n }.setSp (s.regs.sp + 2#16))) ∨
      ∃ k a n, pop16 s = .raise k { s with extReads := n } ∧
        busRead a { s with extReads := n } = .raise k { s with extReads := n } := by
  unfold pop16 busRead16
  obtain ⟨hi, n, hd⟩ | ⟨k, hr⟩ := busRead_cases (s.regs.sp + 1#16) s
  · obtain ⟨lo, m, hd'⟩ | ⟨k, hr'⟩ := busRead_cases s.regs.sp { s with extReads := n }
    · exact .inl ⟨join hi lo, m, by rw [hd, Eff.bind_done, hd']; rfl⟩
    · exact .inr ⟨k, s.regs.sp, n, by rw [hd, Eff.bind_done, hr']; rfl, hr'⟩
  · exact .inr ⟨k, _, s.extReads, by rw [hr]; rfl, hr⟩

/-- A rule that pops a word: the state it ends has `SP` moved. -/
theorem Executes.of_pop {f : Word → State → State} (h16 : i.storeAddr16 s = none)
    (h : ∀ v u, SameCore s u → EndsAs i s u (f v (u.setSp (s.regs.sp + 2#16)))) :
    Executes i s ((pop16 s).andThen f) := by
  obtain ⟨v, n, hd⟩ | ⟨k, a, n, hr, hrk⟩ := pop16_reads s
  · rw [hd]
    exact .completes (.reads n h16) (h v _ (SameCore.of_extReads s n))
  · rw [hr]
    exact .raises (.readRaises a n k h16 hrk)

/-- A rule that stores one byte. -/
theorem Executes.of_write {f : Unit → State → State} (ha : i.storeAddr s = some a)
    (h16 : i.storeAddr16 s = none) (h : ∀ u, SameCore s u → EndsAs i s u (f () u)) :
    Executes i s ((busWrite a v s).andThen f) := by
  cases hw : busWrite a v s with
  | done _ u =>
    exact .completes (.byteStore a v s.extReads ha h16 ⟨congrArg _ hw, congrArg _ hw⟩)
      (h u (busWrite_done hw))
  | raise k u => exact .raises (.byteStore a v s.extReads ha h16 ⟨congrArg _ hw, congrArg _ hw⟩)

/-- A rule that modifies the byte at `x[HL]`. -/
theorem Executes.of_modify {m : Byte → Byte} {f : Byte → State → State}
    (ha : i.storeAddr s = some s.hl) (h16 : i.storeAddr16 s = none)
    (h : ∀ v u, SameCore s u → EndsAs i s u (f v u)) :
    Executes i s ((modifyLoc .atHl m s).andThen f) := by
  obtain ⟨v, n, hd⟩ | ⟨k, hr⟩ := busRead_cases s.hl s
  · rw [modifyLoc_atHl_of_read hd]
    cases hw : busWrite s.hl (m v) { s with extReads := n } with
    | done _ u =>
      exact .completes (.byteStore s.hl (m v) n ha h16 ⟨congrArg _ hw, congrArg _ hw⟩)
        (h v u ((SameCore.of_extReads s n).trans (busWrite_done hw)))
    | raise k u => exact .raises (.byteStore s.hl (m v) n ha h16 ⟨congrArg _ hw, congrArg _ hw⟩)
  · rw [modifyLoc, readLoc, hr]
    exact .raises (.readRaises s.hl s.extReads k h16 hr)

/-- A rule that stores `SP` (41_load16 R212). -/
theorem Executes.of_wordStore {nn : Word} {f : Unit → State → State} (hi : i = .ldAtNnSp nn)
    (h : ∀ u, SameCore s u → EndsAs i s u (f () u)) :
    Executes i s ((busWrite16 nn s.regs.sp s).andThen f) := by
  have hsame := busWrite16_sameCore nn s.regs.sp s
  cases hw : busWrite16 nn s.regs.sp s with
  | done _ u =>
    rw [hw] at hsame
    exact .completes (.wordStore nn hi ⟨congrArg _ hw, congrArg _ hw⟩) (h u hsame)
  | raise k u => exact .raises (.wordStore nn hi ⟨congrArg _ hw, congrArg _ hw⟩)

/-- A rule that pushes a word. -/
theorem Executes.of_push {v : Word} {f : Unit → State → State}
    (ha : i.storeAddr s = none) (h16 : i.storeAddr16 s = some (s.regs.sp - 2#16))
    (hne : ∀ nn, i ≠ .ldAtNnSp nn)
    (h : ∀ u, SameButSp s u → EndsAs i s u (f () u)) : Executes i s ((push16 v s).andThen f) := by
  have hsame := push16_sameButSp v s
  cases hw : push16 v s with
  | done _ u =>
    rw [hw] at hsame
    exact .completes (.push v ha h16 hne ⟨congrArg _ hw, congrArg _ hw⟩) (h u hsame)
  | raise k u => exact .raises (.push v ha h16 hne ⟨congrArg _ hw, congrArg _ hw⟩)

end kinds

/-! ### The rows of the table -/

/-- The row of an unconditional instruction: where it stores a byte, where a word, its length, its
cost. -/
structure Row (i : Instr) (a a16 : State → Option Word) (len n : Nat) : Prop where
  addr : ∀ s, i.storeAddr s = a s
  addr16 : ∀ s, i.storeAddr16 s = a16 s
  len : i.len = len
  cycles : i.cycles = some n
  always : i.cyclesNotTaken = none

/-- The row of a conditional instruction: its condition, its length, its two costs. -/
structure CondRow (i : Instr) (cc : Cond) (taken notTaken : Nat) : Prop where
  addr : ∀ s, i.storeAddr s = none
  field : ((encode i).headD 0#8).toNat / 8 % 4 = cc.code
  cycles : i.cycles = some taken
  notTaken : i.cyclesNotTaken = some notTaken
  redirects : i.redirects = true

/-- No store. -/
def nowhere (_ : State) : Option Word := none

section rows
variable {i : Instr} {s u : State} {a a16 : State → Option Word} {len n : Nat} {g : RegFile}

theorem Row.quiet (h : Row i nowhere nowhere len n) (s : State) : Quiet i s := ⟨h.addr s, h.addr16 s⟩

theorem Row.costs (h : Row i a a16 len n) (s : State) : Costs i s n :=
  ⟨fun _ => h.cycles, fun hc => absurd h.always hc⟩

/-- An unconditional rule that ends at the following instruction. -/
theorem Row.closing (h : Row i a a16 len n)
    (hf : g.f = s.regs.f ∨ (i.writesFlags = true ∧ g.f &&& 0x0F#8 = 0x00#8)) :
    Closing i s g (s.next len) n :=
  ⟨hf, fun _ => by rw [h.len], h.costs s⟩

/-- A rule that stores nothing and leaves `F`. -/
theorem Row.ends_keepingF (h : Row i nowhere nowhere len n) (hu : SameButSp s u)
    (hf : g.f = s.regs.f) : EndsAs i s u (u.ends g (s.next len) n) :=
  .of_quiet (h.quiet s) hu (h.closing (.inl hf))

/-- The packed flags leave the low nibble of `F` zero (10_state R24, R25). -/
theorem packFlags_low : ∀ z n h c : Bool, packFlags z n h c &&& 0x0F#8 = 0x00#8 := by decide

/-- A rule that stores nothing and writes the flags. -/
theorem Row.ends_withFlags (h : Row i nowhere nowhere len n) (hu : SameButSp s u)
    (hf : i.writesFlags = true) (z m c d : Bool) :
    EndsAs i s u (u.ends (g.withFlags z m c d) (s.next len) n) :=
  .of_quiet (h.quiet s) hu (h.closing (.inr ⟨hf, packFlags_low z m c d⟩))

/-- A rule that stores a byte and leaves the registers. -/
theorem Row.ends_store {b : State → Word} (h : Row i (fun s => some (b s)) nowhere len n)
    (hu : SameCore s u) : EndsAs i s u (u.ends s.regs (s.next len) n) :=
  .of_ends hu.sameButSp (h.closing (.inl rfl)) (fun _ => ⟨rfl, fun _ _ => ⟨rfl, rfl⟩⟩)
    fun hc => absurd (h.addr16 s) hc

/-- A rule that stores a byte and writes the flags. -/
theorem Row.ends_store_withFlags {b : State → Word} (h : Row i (fun s => some (b s)) nowhere len n)
    (hu : SameCore s u) (hf : i.writesFlags = true) (z m c d : Bool) :
    EndsAs i s u (u.ends (s.regs.withFlags z m c d) (s.next len) n) :=
  .of_ends hu.sameButSp (h.closing (.inr ⟨hf, packFlags_low z m c d⟩))
    (fun _ => ⟨rfl, fun _ _ => ⟨rfl, rfl⟩⟩) fun hc => absurd (h.addr16 s) hc

/-- A rule that ends with the registers as they were after a push. -/
theorem EndsAs.of_push {p : Word} (ha : i.storeAddr s = none) (hne : ∀ nn, i ≠ .ldAtNnSp nn)
    (hu : SameButSp s u) (hp : i.redirects = false → p = s.next i.len) (hc : Costs i s n) :
    EndsAs i s u (u.ends u.regs p n) := by
  have hregs : u.regs = { s.regs with sp := u.regs.sp } := hu.regs
  have hf : u.regs.f = s.regs.f := by rw [hregs]
  exact .of_ends hu ⟨.inl hf, hp, hc⟩ (fun h => absurd ha h)
    fun _ => ⟨by conv_lhs => rw [hregs], fun nn h => absurd h (hne nn)⟩

/-- A conditional rule costs what the condition says (45_control_flow R310). -/
theorem CondRow.costs {cc : Cond} {x y : Nat} (h : CondRow i cc x y) (s : State) :
    Costs i s (if s.cond cc = true then x else y) :=
  ⟨fun hc => absurd (h.notTaken.symm.trans hc) (Option.some_ne_none y), fun _ => ⟨cc, h.field,
    fun ht => h.cycles.trans (congrArg some (if_pos ht).symm),
    fun hf => h.notTaken.trans (congrArg some (if_neg (ne_true_of_eq_false hf)).symm)⟩⟩

/-- A conditional rule may end anywhere. -/
theorem CondRow.closing {cc : Cond} {x y : Nat} (h : CondRow i cc x y) (hf : g.f = s.regs.f)
    {p : Word} (hn : n = if s.cond cc = true then x else y) : Closing i s g p n :=
  ⟨.inl hf, fun hr => absurd (h.redirects.symm.trans hr) (by decide), hn ▸ h.costs s⟩

end rows

end Sys2Proof.Machine
end

section
/-! PROOFS. The rows of the families of the opcode table, and the case split over the table: what `exec`
answers for each instruction (40_load8 to 46_cpu_control). -/

namespace Sys2Proof.Machine

/-! ### The rows of the families -/

section rows
variable (r r' : Reg8) (rr : Reg16) (qq : StackReg) (op : AluOp) (ro : RotOp) (b : Fin 8) (x : Loc)
  (cc : Cond) (n : Byte) (nn : Word)

theorem row_ldReg : Row (.ldReg r r') nowhere nowhere 1 1 := by
  cases r <;> cases r' <;> exact ⟨fun _ => rfl, fun _ => rfl, rfl, rfl, rfl⟩

theorem row_ldImm : Row (.ldImm r n) nowhere nowhere 2 2 := by
  cases r <;> exact ⟨fun _ => rfl, fun _ => rfl, rfl, rfl, rfl⟩

theorem row_ldFromHl : Row (.ldFromHl r) nowhere nowhere 1 2 := by
  cases r <;> exact ⟨fun _ => rfl, fun _ => rfl, rfl, rfl, rfl⟩

theorem row_ldToHl : Row (.ldToHl r) (fun s => some s.hl) nowhere 1 2 := by
  cases r <;> exact ⟨fun _ => rfl, fun _ => rfl, rfl, rfl, rfl⟩

theorem row_ldPair : Row (.ldPair rr nn) nowhere nowhere 3 3 := by
  cases rr <;> exact ⟨fun _ => rfl, fun _ => rfl, rfl, rfl, rfl⟩

theorem row_push : Row (.push qq) nowhere (fun s => some (s.regs.sp - 2#16)) 1 4 := by
  cases qq <;> exact ⟨fun _ => rfl, fun _ => rfl, rfl, rfl, rfl⟩

theorem row_pop : Row (.pop qq) nowhere nowhere 1 3 := by
  cases qq <;> exact ⟨fun _ => rfl, fun _ => rfl, rfl, rfl, rfl⟩

theorem row_alu : Row (.alu op x) nowhere nowhere 1 (locCost x 1 2) := by
  cases op <;> rcases x with (_ | _ | _ | _ | _ | _ | _) | _ <;>
    exact ⟨fun _ => rfl, fun _ => rfl, rfl, rfl, rfl⟩

theorem row_aluImm : Row (.aluImm op n) nowhere nowhere 2 2 := by
  cases op <;> exact ⟨fun _ => rfl, fun _ => rfl, rfl, rfl, rfl⟩

theorem row_incReg : Row (.incReg r) nowhere nowhere 1 1 := by
  cases r <;> exact ⟨fun _ => rfl, fun _ => rfl, rfl, rfl, rfl⟩

theorem row_decReg : Row (.decReg r) nowhere nowhere 1 1 := by
  cases r <;> exact ⟨fun _ => rfl, fun _ => rfl, rfl, rfl, rfl⟩

theorem row_addHl : Row (.addHl rr) nowhere nowhere 1 2 := by
  cases rr <;> exact ⟨fun _ => rfl, fun _ => rfl, rfl, rfl, rfl⟩

theorem row_incPair : Row (.incPair rr) nowhere nowhere 1 2 := by
  cases rr <;> exact ⟨fun _ => rfl, fun _ => rfl, rfl, rfl, rfl⟩

theorem row_decPair : Row (.decPair rr) nowhere nowhere 1 2 := by
  cases rr <;> exact ⟨fun _ => rfl, fun _ => rfl, rfl, rfl, rfl⟩

theorem row_bit : Row (.bit b x) nowhere nowhere 2 (locCost x 2 3) := by
  fin_cases b <;> rcases x with (_ | _ | _ | _ | _ | _ | _) | _ <;>
    exact ⟨fun _ => rfl, fun _ => rfl, rfl, rfl, rfl⟩

/-- Where an operand that is written back is stored (44_rotate_shift_bit R280). -/
def locAddr (x : Loc) (s : State) : Option Word :=
  match x with
  | .reg _ => none
  | .atHl => some s.hl

theorem row_rot : Row (.rot ro x) (locAddr x) nowhere 2 (locCost x 2 4) := by
  cases ro <;> rcases x with (_ | _ | _ | _ | _ | _ | _) | _ <;>
    exact ⟨fun _ => rfl, fun _ => rfl, rfl, rfl, rfl⟩

theorem row_res : Row (.res b x) (locAddr x) nowhere 2 (locCost x 2 4) := by
  fin_cases b <;> rcases x with (_ | _ | _ | _ | _ | _ | _) | _ <;>
    exact ⟨fun _ => rfl, fun _ => rfl, rfl, rfl, rfl⟩

theorem row_setBit : Row (.setBit b x) (locAddr x) nowhere 2 (locCost x 2 4) := by
  fin_cases b <;> rcases x with (_ | _ | _ | _ | _ | _ | _) | _ <;>
    exact ⟨fun _ => rfl, fun _ => rfl, rfl, rfl, rfl⟩

theorem row_rst (y : Fin 8) : Row (.rst y) nowhere (fun s => some (s.regs.sp - 2#16)) 1 4 := by
  fin_cases y <;> exact ⟨fun _ => rfl, fun _ => rfl, rfl, rfl, rfl⟩

/-- The field of the condition, from the first byte of the encoding (30_encoding R155). -/
theorem condField_of_encode {i : Instr} {cc : Cond} {b0 : Byte} {bs : List Byte}
    (h : encode i = b0 :: bs) (hb : b0.toNat / 8 % 4 = cc.code) :
    ((encode i).headD 0#8).toNat / 8 % 4 = cc.code := by
  rw [h]
  exact hb

theorem row_jpCc : CondRow (.jpCc cc nn) cc 4 3 := by
  cases cc <;> exact ⟨fun _ => rfl, condField_of_encode rfl rfl, rfl, rfl, rfl⟩

theorem row_jrCc : CondRow (.jrCc cc n) cc 3 2 := by
  cases cc <;> exact ⟨fun _ => rfl, condField_of_encode rfl rfl, rfl, rfl, rfl⟩

theorem row_callCc : CondRow (.callCc cc nn) cc 6 3 := by
  cases cc <;> exact ⟨fun _ => rfl, condField_of_encode rfl rfl, rfl, rfl, rfl⟩

theorem row_retCc : CondRow (.retCc cc) cc 5 2 := by
  cases cc <;> exact ⟨fun _ => rfl, condField_of_encode rfl rfl, rfl, rfl, rfl⟩

/-- The conditional instructions but `CALL cc,nn` push nothing. -/
theorem storeAddr16_jpCc (s : State) : (Instr.jpCc cc nn).storeAddr16 s = none := by cases cc <;> rfl
theorem storeAddr16_jrCc (s : State) : (Instr.jrCc cc n).storeAddr16 s = none := by cases cc <;> rfl
theorem storeAddr16_retCc (s : State) : (Instr.retCc cc).storeAddr16 s = none := by cases cc <;> rfl

/-- `CALL cc,nn` pushes when it is taken (45_control_flow R317). -/
theorem storeAddr16_callCc (s : State) : (Instr.callCc cc nn).storeAddr16 s =
    if s.cond cc = true then some (s.regs.sp - 2#16) else none := by
  have hnot (p : Bool) (w : Option Word) :
      (if p = true then none else w) = if (!p) = true then w else none := by cases p <;> rfl
  cases cc with
  | nz | nc => exact hnot _ _
  | z | c => rfl

/-! ### The families of the flag table (10_state R46) -/

/-- Whether an instruction writes flags, from the bytes of its encoding. -/
theorem writesFlags_of_encode {i : Instr} {b0 : Byte} {bs : List Byte} (h : encode i = b0 :: bs) :
    i.writesFlags =
      if b0 == 0xCB#8 then bs.any fun b1 => decide (b1.toNat < 0x80)
      else (decide (0x80 ≤ b0.toNat) && decide (b0.toNat ≤ 0xBF)) ||
        [0xC6#8, 0x04#8, 0x05#8, 0x07#8].contains (b0 &&& 0xC7#8) ||
        b0 &&& 0xCF#8 == 0x09#8 || [0xE8#8, 0xF8#8, 0xF1#8].contains b0 := by
  rw [Instr.writesFlags, h]

theorem writesFlags_alu : (Instr.alu op x).writesFlags = true := by
  rw [writesFlags_of_encode (encode_alu op x)]
  cases op <;> rcases x with (_ | _ | _ | _ | _ | _ | _) | _ <;> rfl

theorem writesFlags_rot : (Instr.rot ro x).writesFlags = true := by
  rw [writesFlags_of_encode (encode_rot ro x)]
  cases ro <;> rcases x with (_ | _ | _ | _ | _ | _ | _) | _ <;> rfl

theorem writesFlags_bit : (Instr.bit b x).writesFlags = true := by
  rw [writesFlags_of_encode (encode_bit b x)]
  fin_cases b <;> rcases x with (_ | _ | _ | _ | _ | _ | _) | _ <;> rfl

theorem writesFlags_aluImm : (Instr.aluImm op n).writesFlags = true := by cases op <;> rfl
theorem writesFlags_incReg : (Instr.incReg r).writesFlags = true := by cases r <;> rfl
theorem writesFlags_decReg : (Instr.decReg r).writesFlags = true := by cases r <;> rfl
theorem writesFlags_addHl : (Instr.addHl rr).writesFlags = true := by cases rr <;> rfl

end rows

/-! ### The rules by the kind of their accesses -/

section kinds
variable {i : Instr} {s : State} {g : RegFile} {len n : Nat}

/-- A rule without an access that leaves `F`. -/
theorem Row.executes (h : Row i nowhere nowhere len n) (hf : g.f = s.regs.f) :
    Executes i s (.next (s.ends g (s.next len) n)) :=
  .of_next (h.quiet s) (h.ends_keepingF (SameCore.rfl' s).sameButSp hf)

/-- A rule without an access that writes the flags. -/
theorem Row.executes_withFlags (h : Row i nowhere nowhere len n) (hf : i.writesFlags = true)
    (z m c d : Bool) : Executes i s (.next (s.ends (g.withFlags z m c d) (s.next len) n)) :=
  .of_next (h.quiet s) (h.ends_withFlags (SameCore.rfl' s).sameButSp hf z m c d)

theorem SameCore.f {s u : State} (h : SameCore s u) : u.regs.f = s.regs.f := congrArg RegFile.f h.regs

theorem setPair_f (s : State) (rr : Reg16) (v : Word) : (s.setPair rr v).regs.f = s.regs.f := by
  cases rr <;> rfl

/-- A rule without an access that ends after a write of registers, not of `pc`, and of the flags. -/
theorem Row.executes_setFlags (h : Row i nowhere nowhere len n) (hf : i.writesFlags = true)
    {u : State} (hu : u = { s with regs := { u.regs with pc := s.regs.pc } }) (z m c d : Bool) :
    Executes i s (.next ((u.setFlags z m c d).finish len n)) := by
  rw [setFlags_finish, hu]
  exact h.executes_withFlags hf z m c d

/-- A load of `A` (40_load8 R186, R187, R190, R192, R194). -/
theorem Row.executes_loadA (h : Row i nowhere nowhere len n) (a : Word) :
    Executes i s (loadA a len n s) := by
  refine .of_read (h.addr16 s) fun v u hu => ?_
  rw [State.setReg_finish, hu.next]
  exact h.ends_keepingF hu.sameButSp hu.f

/-- A load of `A` that moves the pointer (40_load8 R196, R197). -/
theorem Row.executes_loadAMovingHl (h : Row i nowhere nowhere 1 2) (d : Word) :
    Executes i s (loadAMovingHl d s) := by
  refine .of_read (h.addr16 s) fun v u hu => ?_
  rw [State.setPair_finish, State.setReg_ends, State.setReg_next, hu.next]
  exact h.ends_keepingF hu.sameButSp hu.f

/-- A store that leaves the registers (40_load8 R184, R185, R188, R189, R191, R193, R195). -/
theorem Row.executes_store {a : State → Word} (h : Row i (fun s => some (a s)) nowhere len n)
    (v : Byte) : Executes i s ((busWrite (a s) v s).andThen fun _ t => t.finish len n) := by
  refine .of_write (h.addr s) (h.addr16 s) fun u hu => ?_
  rw [hu.finish_eq_ends]
  exact h.ends_store hu

/-- A store of `A` that moves the pointer (40_load8 R198, R199). -/
theorem Row.executes_storeAMovingHl (h : Row i (fun s => some s.hl) nowhere 1 2)
    (hi : i = .ldAtHlIncA ∨ i = .ldAtHlDecA) (d : Word) : Executes i s (storeAMovingHl d s) := by
  refine .of_write (h.addr s) (h.addr16 s) fun u hu => ?_
  rw [State.setPair_finish, hu.next, State.setPair_regs, hu.regs]
  exact .of_ends hu.sameButSp (h.closing (.inl rfl))
    (fun _ => ⟨rfl, fun hinc hdec => absurd hi (not_or.mpr ⟨hinc, hdec⟩)⟩)
    fun hc => absurd (h.addr16 s) hc

/-- A read-modify-write that sets the flags (42_alu8 R239 to R242, 44_rotate_shift_bit R285 to R292). -/
theorem Row.executes_modifySettingFlags {reg atHl : Nat} {x : Loc}
    (h : Row i (locAddr x) nowhere len (locCost x reg atHl)) (hf : i.writesFlags = true)
    (f : Byte → AluResult) : Executes i s (modifySettingFlags f x len reg atHl s) := by
  cases x with
  | reg r =>
    rw [modifySettingFlags_reg]
    exact Row.executes_withFlags h hf _ _ _ _
  | atHl =>
    refine .of_modify (h.addr s) (h.addr16 s) fun v u hu => ?_
    rw [setAluFlags_finish, hu.regs, hu.next]
    exact Row.ends_store_withFlags (b := State.hl) h hu hf _ _ _ _

/-- A read-modify-write that sets no flags (44_rotate_shift_bit R294, R295). -/
theorem Row.executes_modify {reg atHl : Nat} {x : Loc}
    (h : Row i (locAddr x) nowhere len (locCost x reg atHl)) (m : Byte → Byte) :
    Executes i s ((modifyLoc x m s).andThen fun _ t => t.finish len (locCost x reg atHl)) := by
  cases x with
  | reg r =>
    rw [modifyLoc_reg, Eff.andThen_done, State.setReg_finish]
    exact Row.executes h (RegFile.set_f ..)
  | atHl =>
    refine .of_modify (h.addr s) (h.addr16 s) fun v u hu => ?_
    rw [hu.finish_eq_ends]
    exact Row.ends_store (b := State.hl) h hu

/-- A call, taken (45_control_flow R316, R317, R321). -/
theorem executes_callTo (ha : i.storeAddr s = none)
    (h16 : i.storeAddr16 s = some (s.regs.sp - 2#16)) (hne : ∀ nn, i ≠ .ldAtNnSp nn)
    (hr : i.redirects = true) (hc : Costs i s n) (target : Word) :
    Executes i s (callTo target len n s) :=
  .of_push ha h16 hne fun _ hu =>
    .of_push ha hne hu (fun h => absurd (hr.symm.trans h) (by decide)) hc

/-- A return, taken (45_control_flow R318, R319). -/
theorem executes_retWith (hq : Quiet i s) (hr : i.redirects = true) (hc : Costs i s n) :
    Executes i s (retWith n s) :=
  .of_pop hq.2 fun _ _ hu => .of_quiet hq hu.sameButSp
    ⟨.inl hu.f, fun h => absurd (hr.symm.trans h) (by decide), hc⟩

/-- A jump (45_control_flow R311, R313, R314). -/
theorem Row.executes_jump (h : Row i nowhere nowhere len n) (hr : i.redirects = true) (p : Word) :
    Executes i s (.next (s.jump p n)) :=
  .of_next (h.quiet s) (.of_quiet (h.quiet s) (SameCore.rfl' s).sameButSp
    ⟨.inl rfl, fun hc => absurd (hr.symm.trans hc) (by decide), h.costs s⟩)

/-- A conditional rule that makes no access, taken or not. -/
theorem CondRow.executes {cc : Cond} {x y : Nat} (h : CondRow i cc x y)
    (h16 : i.storeAddr16 s = none) {p : Word} (hn : n = if s.cond cc = true then x else y) :
    Executes i s (.next (s.ends s.regs p n)) :=
  .of_next ⟨h.addr s, h16⟩ (.of_quiet ⟨h.addr s, h16⟩ (SameCore.rfl' s).sameButSp (h.closing rfl hn))

/-- A control instruction, which writes latches besides (46_cpu_control R331 to R335). -/
theorem Row.executes_control {t : State} (h : Row i nowhere nowhere len n)
    (ht : t = { s with regs := { s.regs with pc := s.next len }, lastCycles := n, ime := t.ime,
                       imeSched := t.imeSched, halted := t.halted, stopped := t.stopped,
                       haltBugArmed := t.haltBugArmed })
    (hl : LatchRule i s t) : Executes i s (.next t) := by
  have hregs : t.regs = { s.regs with pc := s.next len } := congrArg State.regs ht
  have hcost : t.lastCycles = n := congrArg State.lastCycles ht
  refine .of_next (h.quiet s) ⟨?_, ?_, hl, fun hc => absurd (h.addr s) hc,
    fun hc => absurd (h.addr16 s) hc⟩
  · rw [hregs, hcost]; exact ht
  · rw [hregs, hcost]; exact h.closing (.inl rfl)

end kinds

/-! ### The case split over the table -/

/-- Every instruction does what its row says: it makes the accesses of its kind, and its rule ends
accordingly. -/
theorem exec_executes (i : Instr) (s : State) : Executes i s (exec i s) := by
  induction i using Instr.byFamily with
  | ldReg r r' =>
    rw [exec_ldReg, ldReg, State.setReg_finish]
    exact (row_ldReg r r').executes (RegFile.set_f ..)
  | ldImm r n =>
    rw [exec_ldImm, ldImm, State.setReg_finish]
    exact (row_ldImm r n).executes (RegFile.set_f ..)
  | ldFromHl r =>
    rw [exec_ldFromHl]
    refine .of_read ((row_ldFromHl r).addr16 s) fun v u hu => ?_
    rw [State.setReg_finish, hu.next]
    exact (row_ldFromHl r).ends_keepingF hu.sameButSp ((RegFile.set_f ..).trans hu.f)
  | ldToHl r => rw [exec_ldToHl]; exact (row_ldToHl r).executes_store _
  | ldPair rr nn =>
    rw [exec_ldPair, ldPair, State.setPair_finish]
    exact (row_ldPair rr nn).executes (setPair_f ..)
  | push qq =>
    rw [exec_push]
    have hne : ∀ nn, Instr.push qq ≠ .ldAtNnSp nn := by cases qq <;> exact fun _ => nofun
    have ha := (row_push qq).addr s
    refine .of_push ha ((row_push qq).addr16 s) hne fun u hu => .of_push ha hne hu (fun _ => ?_)
      ((row_push qq).costs s)
    rw [(row_push qq).len]
    exact SameCore.next hu 1
  | pop qq =>
    rw [exec_pop]
    refine .of_pop ((row_pop qq).addr16 s) fun v u hu => ?_
    rw [State.setStackReg_finish, State.setSp_ends, State.setSp_next, hu.next]
    refine .of_quiet ((row_pop qq).quiet s) hu.sameButSp ((row_pop qq).closing ?_)
    cases qq with
    | bc | de | hl => exact .inl hu.f
    | af => exact .inr ⟨rfl, maskF_low _⟩
  | alu op x =>
    rw [exec_alu]
    refine .of_readLoc ((row_alu op x).addr16 s) fun v u hu => ?_
    rw [State.alu_finish, hu.next]
    exact (row_alu op x).ends_withFlags hu.sameButSp (writesFlags_alu op x) _ _ _ _
  | aluImm op n =>
    rw [exec_aluImm, aluImm, State.alu_finish]
    exact (row_aluImm op n).executes_withFlags (writesFlags_aluImm op n) _ _ _ _
  | incReg r =>
    rw [exec_incReg, incLoc_eq_modifySettingFlags]
    exact (row_incReg r).executes_modifySettingFlags (x := .reg r) (writesFlags_incReg r) _
  | decReg r =>
    rw [exec_decReg, decLoc_eq_modifySettingFlags]
    exact (row_decReg r).executes_modifySettingFlags (x := .reg r) (writesFlags_decReg r) _
  | addHl rr =>
    rw [exec_addHl, addHl, State.setPair_setFlags_finish]
    exact (row_addHl rr).executes_withFlags (writesFlags_addHl rr) _ _ _ _
  | incPair rr =>
    rw [exec_incPair, incPair, State.setPair_finish]
    exact (row_incPair rr).executes (setPair_f ..)
  | decPair rr =>
    rw [exec_decPair, decPair, State.setPair_finish]
    exact (row_decPair rr).executes (setPair_f ..)
  | rot op x =>
    rw [exec_rot, rotLoc_eq_modifySettingFlags]
    exact (row_rot op x).executes_modifySettingFlags (writesFlags_rot op x) _
  | bit b x =>
    rw [exec_bit]
    refine .of_readLoc ((row_bit b x).addr16 s) fun v u hu => ?_
    rw [setFlags_finish, hu.next]
    exact (row_bit b x).ends_withFlags hu.sameButSp (writesFlags_bit b x) _ _ _ _
  | res b x => rw [exec_res]; exact (row_res b x).executes_modify _
  | setBit b x => rw [exec_setBit]; exact (row_setBit b x).executes_modify _
  | jpCc cc nn =>
    rw [exec_jpCc, jpCc_eq]
    have h16 := storeAddr16_jpCc cc nn s
    split
    next h => exact (row_jpCc cc nn).executes h16 (if_pos h).symm
    next h => exact (row_jpCc cc nn).executes h16 (if_neg h).symm
  | jrCc cc e =>
    rw [exec_jrCc, jrCc_eq]
    have h16 := storeAddr16_jrCc cc e s
    split
    next h => exact (row_jrCc cc e).executes h16 (if_pos h).symm
    next h => exact (row_jrCc cc e).executes h16 (if_neg h).symm
  | callCc cc nn =>
    rw [exec_callCc]
    have hrow := row_callCc cc nn
    have hcost := hrow.costs s
    have h16 := storeAddr16_callCc cc nn s
    have hne : ∀ mm, Instr.callCc cc nn ≠ .ldAtNnSp mm := by cases cc <;> exact fun _ => nofun
    cases hc : s.cond cc with
    | true =>
      rw [hc, if_pos rfl] at hcost h16
      rw [callCc_of_cond hc]
      exact executes_callTo (hrow.addr s) h16 hne hrow.redirects hcost nn
    | false =>
      rw [hc, if_neg Bool.false_ne_true] at h16
      rw [callCc_of_not_cond hc]
      exact hrow.executes h16 (by rw [hc]; rfl)
  | retCc cc =>
    rw [exec_retCc]
    have hrow := row_retCc cc
    have hcost := hrow.costs s
    have h16 := storeAddr16_retCc cc s
    cases hc : s.cond cc with
    | true =>
      rw [hc, if_pos rfl] at hcost
      rw [retCc_of_cond hc]
      exact executes_retWith ⟨hrow.addr s, h16⟩ hrow.redirects hcost
    | false =>
      rw [retCc_of_not_cond hc]
      exact hrow.executes h16 (by rw [hc]; rfl)
  | rst y =>
    rw [exec_rst]
    have hne : ∀ nn, Instr.rst y ≠ .ldAtNnSp nn := by fin_cases y <;> exact fun _ => nofun
    have hr : (Instr.rst y).redirects = true := by fin_cases y <;> rfl
    exact executes_callTo ((row_rst y).addr s) ((row_rst y).addr16 s) hne hr ((row_rst y).costs s) _
  | invalid x =>
    rw [exec_invalid]
    exact .raises (.invalid x rfl (by cases x <;> rfl))
  | nop =>
    have hrow : Row .nop nowhere nowhere 1 1 := ⟨fun _ => rfl, fun _ => rfl, rfl, rfl, rfl⟩
    exact hrow.executes rfl
  | ldAtBcA =>
    exact Row.executes_store (a := State.bc) ⟨fun _ => rfl, fun _ => rfl, rfl, rfl, rfl⟩ _
  | ldAtDeA =>
    exact Row.executes_store (a := State.de) ⟨fun _ => rfl, fun _ => rfl, rfl, rfl, rfl⟩ _
  | ldhAtCA =>
    exact Row.executes_store (a := fun s => zeroPage s.regs.c) ⟨fun _ => rfl, fun _ => rfl, rfl, rfl, rfl⟩ _
  | ldAtNnA nn =>
    exact Row.executes_store (a := fun _ => nn) ⟨fun _ => rfl, fun _ => rfl, rfl, rfl, rfl⟩ _
  | ldhAtNA n =>
    exact Row.executes_store (a := fun _ => zeroPage n) ⟨fun _ => rfl, fun _ => rfl, rfl, rfl, rfl⟩ _
  | ldAtHlN n =>
    exact Row.executes_store (a := State.hl) ⟨fun _ => rfl, fun _ => rfl, rfl, rfl, rfl⟩ _
  | ldAAtBc | ldAAtDe | ldhAAtC | ldhAAtN n | ldAAtNn nn =>
    exact Row.executes_loadA ⟨fun _ => rfl, fun _ => rfl, rfl, rfl, rfl⟩ _
  | ldAAtHlInc | ldAAtHlDec =>
    exact Row.executes_loadAMovingHl ⟨fun _ => rfl, fun _ => rfl, rfl, rfl, rfl⟩ _
  | ldAtHlIncA =>
    exact Row.executes_storeAMovingHl ⟨fun _ => rfl, fun _ => rfl, rfl, rfl, rfl⟩ (.inl rfl) _
  | ldAtHlDecA =>
    exact Row.executes_storeAMovingHl ⟨fun _ => rfl, fun _ => rfl, rfl, rfl, rfl⟩ (.inr rfl) _
  | incAtHl | decAtHl =>
    exact Row.executes_modifySettingFlags (x := .atHl) ⟨fun _ => rfl, fun _ => rfl, rfl, rfl, rfl⟩ rfl _
  | rlca | rrca | rla | rra =>
    exact Row.executes_setFlags ⟨fun _ => rfl, fun _ => rfl, rfl, rfl, rfl⟩ rfl rfl _ _ _ _
  | daa | cpl | scf | ccf =>
    exact Row.executes_setFlags ⟨fun _ => rfl, fun _ => rfl, rfl, rfl, rfl⟩ rfl rfl _ _ _ _
  | addSpE e =>
    exact Row.executes_setFlags ⟨fun _ => rfl, fun _ => rfl, rfl, rfl, rfl⟩ rfl rfl _ _ _ _
  | ldHlSpE e =>
    exact Row.executes_setFlags ⟨fun _ => rfl, fun _ => rfl, rfl, rfl, rfl⟩ rfl rfl _ _ _ _
  | ldSpHl =>
    have hrow : Row .ldSpHl nowhere nowhere 1 2 := ⟨fun _ => rfl, fun _ => rfl, rfl, rfl, rfl⟩
    rw [exec_ldSpHl, execLdSpHl, State.finish_eq_ends, State.setSp_ends, State.setSp_next]
    exact hrow.executes rfl
  | ldAtNnSp nn =>
    have hrow : Row (.ldAtNnSp nn) nowhere (fun _ => some nn) 3 5 :=
      ⟨fun _ => rfl, fun _ => rfl, rfl, rfl, rfl⟩
    exact .of_wordStore rfl fun u hu => by
      rw [hu.finish_eq_ends]
      exact .of_ends hu.sameButSp (hrow.closing (.inl rfl)) (fun h => absurd rfl h)
        fun _ => ⟨rfl, fun _ _ => rfl⟩
  | jrE e | jpNn nn | jpHl =>
    exact Row.executes_jump ⟨fun _ => rfl, fun _ => rfl, rfl, rfl, rfl⟩ rfl _
  | callNn nn =>
    have hrow : Row (.callNn nn) nowhere (fun s => some (s.regs.sp - 2#16)) 3 6 :=
      ⟨fun _ => rfl, fun _ => rfl, rfl, rfl, rfl⟩
    have hne : ∀ mm, Instr.callNn nn ≠ .ldAtNnSp mm := fun _ => nofun
    exact executes_callTo rfl rfl hne rfl (hrow.costs s) nn
  | ret =>
    have hrow : Row .ret nowhere nowhere 1 4 := ⟨fun _ => rfl, fun _ => rfl, rfl, rfl, rfl⟩
    exact executes_retWith (hrow.quiet s) rfl (hrow.costs s)
  | reti =>
    have hrow : Row .reti nowhere nowhere 1 4 := ⟨fun _ => rfl, fun _ => rfl, rfl, rfl, rfl⟩
    refine .of_pop rfl fun v u hu => ?_
    have hends : EndsAs .reti s u (u.ends { u.regs with sp := s.regs.sp + 2#16 } v 4) :=
      .of_quiet (hrow.quiet s) hu.sameButSp ⟨.inl hu.f, fun h => absurd h (by decide), hrow.costs s⟩
    exact ⟨rfl, hends.closing, ⟨hends.latches.halted, hends.latches.stopped, fun _ => .inr rfl,
      hends.latches.imeSched, hends.latches.haltBug⟩, hends.byteRegs, hends.wordRegs⟩
  | halt =>
    have hrow : Row .halt nowhere nowhere 1 1 := ⟨fun _ => rfl, fun _ => rfl, rfl, rfl, rfl⟩
    exact hrow.executes_control rfl ⟨fun _ => rfl, fun h => absurd rfl h, fun h => absurd rfl h,
      fun h => absurd rfl h, fun h => (Bool.and_eq_true_iff.mp (Bool.and_eq_true_iff.mp h).1).1⟩
  | stop n =>
    have hrow : Row (.stop n) nowhere nowhere 2 1 := ⟨fun _ => rfl, fun _ => rfl, rfl, rfl, rfl⟩
    exact hrow.executes_control rfl ⟨fun h => absurd rfl h, fun _ => ⟨n, rfl⟩, fun h => absurd rfl h,
      fun h => absurd rfl h, fun h => absurd h Bool.false_ne_true⟩
  | di =>
    have hrow : Row .di nowhere nowhere 1 1 := ⟨fun _ => rfl, fun _ => rfl, rfl, rfl, rfl⟩
    exact hrow.executes_control rfl ⟨fun h => absurd rfl h, fun h => absurd rfl h, fun _ => .inl rfl,
      fun _ => .inl rfl, fun h => absurd h Bool.false_ne_true⟩
  | ei =>
    have hrow : Row .ei nowhere nowhere 1 1 := ⟨fun _ => rfl, fun _ => rfl, rfl, rfl, rfl⟩
    exact hrow.executes_control rfl ⟨fun h => absurd rfl h, fun h => absurd rfl h,
      fun h => absurd rfl h, fun _ => .inr rfl, fun h => absurd h Bool.false_ne_true⟩

end Sys2Proof.Machine
end

section
/-! PROOFS. The whole-machine statements about one instruction, read off from what an instruction can
do. -/

namespace Sys2Proof.Machine

theorem SameButSp.f {s t : State} (h : SameButSp s t) : t.regs.f = s.regs.f := by
  rw [h.regs]; rfl

theorem SameButSp.pc {s t : State} (h : SameButSp s t) : t.regs.pc = s.regs.pc := by
  rw [h.regs]; rfl

section exec
variable {i : Instr} {s t w : State} {f : Option Fatal} {k : Fatal} {a x : Word}

/-! ### What `exec` answers -/


theorem exec_cases (h : exec i s = .next t) :
    (∃ w, Accesses i s none w ∧ EndsAs i s w t) ∨
      ∃ k w, Accesses i s (some k) w ∧ t = w.raised k := by
  have hexec := exec_executes i s
  rw [h] at hexec
  cases hexec with
  | completes ha he => exact .inl ⟨_, ha, he⟩
  | raises ha => exact .inr ⟨_, _, ha, rfl⟩

theorem exec_next (i : Instr) (s : State) : ∃ t, exec i s = .next t := by
  have hexec := exec_executes i s
  generalize exec i s = o at hexec
  cases hexec with
  | completes _ _ => exact ⟨_, rfl⟩
  | raises _ => exact ⟨_, rfl⟩

/-- The end of a rule records no fatal condition. -/
theorem EndsAs.fatal (h : EndsAs i s w t) (ha : Accesses i s f w) : t.fatal = s.fatal :=
  (congrArg State.fatal h.frame).trans ha.sameButSp.fatal

theorem exec_completed (h : exec i s = .next t) (ht : t.fatal = none) :
    ∃ w, Accesses i s none w ∧ EndsAs i s w t :=
  (exec_cases h).resolve_right fun ⟨_, _, _, hraised⟩ => by rw [hraised] at ht; cases ht

theorem exec_raised (h : exec i s = .next t) (hs : s.fatal = none) (ht : t.fatal ≠ none) :
    ∃ k w, Accesses i s (some k) w ∧ t = w.raised k :=
  (exec_cases h).resolve_left fun ⟨_, ha, he⟩ => ht ((he.fatal ha).trans hs)

theorem Eff.eq_raise_of_leaves {α : Type} {y : Eff α} (h : y.Leaves (some k) w) :
    y = .raise k w := by
  obtain ⟨hf, rfl⟩ := h
  cases y with
  | done v u => cases hf
  | raise k' u => cases hf; rfl

theorem Eff.eq_done_of_leaves {y : Eff Unit} (h : y.Leaves none w) : y = .done () w := by
  obtain ⟨hf, rfl⟩ := h
  cases y with
  | done v u => rfl
  | raise k' u => cases hf

/-! ### Flags, latches, `pc`, cycles -/

/-- Settles O38: the end of a rule, completed or not, writes `F` by a row of the table alone. -/
theorem onlyTheTableWritesFlags : Obligations.OnlyTheTableWritesFlags := by
  intro i s t hf h
  obtain ⟨w, -, he⟩ | ⟨k, w, ha, rfl⟩ := exec_cases h
  · exact he.closing.flags.resolve_right fun hw => Bool.noConfusion (hf.symm.trans hw.1)
  · exact ha.sameButSp.f

/-- Settles O39: the latches of the end of a rule; a fatal access leaves them. -/
theorem onlyControlInstructionsWriteLatches : Obligations.OnlyControlInstructionsWriteLatches := by
  intro i s t h
  obtain ⟨w, -, he⟩ | ⟨k, w, ha, rfl⟩ := exec_cases h
  · exact ⟨he.latches.halted, he.latches.stopped, he.latches.ime, he.latches.imeSched⟩
  · have hsame := ha.sameButSp
    exact ⟨fun hc => absurd hsame.halted hc, fun hc => absurd hsame.stopped hc,
      fun hc => absurd hsame.ime hc, fun hc => absurd hsame.imeSched hc⟩

/-- Settles O40: the target of a rule that does not redirect is the following instruction. -/
theorem pcAdvancesByTheLength : Obligations.PcAdvancesByTheLength := by
  intro i s t harm hr h _ ht
  obtain ⟨w, -, he⟩ := exec_completed h ht
  have hlen : i.len = (encode i).length := rfl
  rw [he.closing.pc hr, s.next_of_not_armed harm, hlen, BitVec.toNat_add, BitVec.toNat_ofNat,
    Nat.add_mod_mod]

/-- Settles O41: the cost of the end of a rule. -/
theorem cyclesAreTheTables : Obligations.CyclesAreTheTables := by
  intro i s t h _ ht
  obtain ⟨w, -, he⟩ := exec_completed h ht
  exact he.closing.cost

/-! ### Fatal accesses -/

/-- `SP` stays where no word is pushed. -/
theorem Accesses.sp_kept (h : Accesses i s f w)
    (hi : i.storeAddr16 s = none ∨ ∃ nn, i = .ldAtNnSp nn) : w.regs.sp = s.regs.sp := by
  cases h with
  | reads n _ => rfl
  | readRaises a n k _ _ => rfl
  | byteStore a v n _ _ hw => rw [← hw.2, (busWrite_sameCore a v _).regs]
  | wordStore nn _ hw => rw [← hw.2, (busWrite16_sameCore nn _ s).regs]
  | push v _ h16 hne _ =>
    obtain hnone | ⟨nn, hnn⟩ := hi
    · exact absurd (h16.symm.trans hnone) (Option.some_ne_none _)
    · exact absurd hnn (hne nn)
  | invalid x _ _ => rfl

/-- A fatal push keeps the decrements made (41_load16 R210). -/
theorem Accesses.sp_pushed (h : Accesses i s (some k) w) (hi : i.storeAddr16 s ≠ none)
    (hne : ∀ nn, i ≠ .ldAtNnSp nn) :
    w.regs.sp = s.regs.sp - 1#16 ∨ w.regs.sp = s.regs.sp - 2#16 := by
  cases h with
  | readRaises a n k h16 _ => exact absurd h16 hi
  | byteStore a v n _ h16 _ => exact absurd h16 hi
  | wordStore nn hnn _ => exact absurd hnn (hne nn)
  | push v _ _ _ hw => exact push16_raise_sp (Eff.eq_raise_of_leaves hw)
  | invalid x _ h16 => exact absurd h16 hi

/-- The second write of a push, once the first has completed (41_load16 R210). -/
theorem push16_of_first {v : Word} {u : State}
    (h : busWrite (s.regs.sp - 1#16) (hiByte v) (s.setSp (s.regs.sp - 1#16)) = .done () u) :
    push16 v s = busWrite (s.regs.sp - 2#16) (loByte v) (u.setSp (s.regs.sp - 2#16)) := by
  have hsp : u.regs.sp = s.regs.sp - 1#16 := congrArg RegFile.sp (busWrite_done h).regs
  have hsub : s.regs.sp - 1#16 - 1#16 = s.regs.sp - 2#16 := by bv_omega
  simp only [push16, State.setSp_regs, h, Eff.bind_done, hsp, hsub]

/-- A push whose first write is fatal (41_load16 R210). -/
theorem push16_of_first_raise {v : Word}
    (h : busWrite (s.regs.sp - 1#16) (hiByte v) (s.setSp (s.regs.sp - 1#16)) = .raise k w) :
    push16 v s = .raise k w := by
  simp only [push16, State.setSp_regs, h, Eff.bind_raise]

/-- Settles O33: the core of the accesses; for the pushed word and the stored `SP`, write by write. -/
theorem fatalInstructionKeepsPc : Obligations.FatalInstructionKeepsPc := by
  refine ⟨fun i s t hs h ht => ?_, fun qq s u w hi lo k hhi hlo => ⟨fun h1 => ?_, fun h1 h2 => ?_⟩,
    fun nn s u w k => ⟨fun h1 => ?_, fun h1 h2 => ?_⟩⟩
  · obtain ⟨k, w, ha, rfl⟩ := exec_raised h hs ht
    have hsame := ha.sameButSp
    exact ⟨hsame.pc, hsame.regs, ha.sp_kept, ha.sp_pushed, hsame.ime,
      hsame.imeSched, hsame.halted, hsame.stopped⟩
  · subst hhi
    refine ⟨?_, (busWrite_raise h1).2⟩
    rw [exec_push, push, push16_of_first_raise h1, Eff.andThen_raise, State.raised]
  · subst hhi hlo
    have hregs : u.regs = { s.regs with sp := s.regs.sp - 1#16 } := (busWrite_done h1).regs
    refine ⟨?_, ?_⟩
    · rw [exec_push, push, push16_of_first h1, h2, Eff.andThen_raise, State.raised]
    · rw [(busWrite_raise h2).2, State.setSp_regs, hregs]
  · refine ⟨?_, (busWrite_raise h1).2⟩
    rw [exec_ldAtNnSp, execLdAtNnSp, busWrite16, h1, Eff.bind_raise, Eff.andThen_raise,
      State.raised]
  · refine ⟨?_, (busWrite_raise h2).2.trans (busWrite_done h1).regs⟩
    rw [exec_ldAtNnSp, execLdAtNnSp, busWrite16, h1, Eff.bind_done, h2, Eff.andThen_raise,
      State.raised]

/-! ### Frames -/

/-- The end of a rule leaves the bytes that the accesses left. -/
theorem EndsAs.peek (h : EndsAs i s w t) (x : Word) : t.peek x = w.peek x := by
  rw [h.frame]
  exact peek_congr rfl rfl rfl rfl rfl rfl

/-- An instruction that stores nothing makes reads alone. -/
theorem Accesses.of_quiet (h : Accesses i s f w) (hq : Quiet i s) :
    ∃ n, w = { s with extReads := n } := by
  cases h with
  | reads n _ => exact ⟨n, rfl⟩
  | readRaises a n k _ _ => exact ⟨n, rfl⟩
  | byteStore a v n ha _ _ => exact absurd (ha.symm.trans hq.1) (Option.some_ne_none a)
  | wordStore nn hi _ => subst hi; exact absurd hq.2 (Option.some_ne_none nn)
  | push v _ h16 _ _ => exact absurd (h16.symm.trans hq.2) (Option.some_ne_none _)
  | invalid x _ _ => exact ⟨s.extReads, rfl⟩

/-- Settles O35: reads, and the end of the rule or the record. -/
theorem noStoreFrame : Obligations.NoStoreFrame := by
  intro i s t ha h16 h
  obtain ⟨w, hacc, he⟩ | ⟨k, w, hacc, rfl⟩ := exec_cases h
  · obtain ⟨n, rfl⟩ := hacc.of_quiet ⟨ha, h16⟩
    have hreads : t.extReads = n := congrArg State.extReads he.frame
    refine ⟨?_, he.peek⟩
    rw [hreads, he.fatal hacc]
    exact he.frame
  · obtain ⟨n, rfl⟩ := hacc.of_quiet ⟨ha, h16⟩
    exact ⟨rfl, fun x => rfl⟩

/-- The latches stay by an instruction that stores (46_cpu_control R330). -/
theorem LatchRule.kept (h : LatchRule i s t) (hi : ¬Quiet i s) :
    t.ime = s.ime ∧ t.imeSched = s.imeSched ∧ t.halted = s.halted ∧ t.stopped = s.stopped := by
  have hne {j : Instr} (hj : Quiet j s) : i ≠ j := fun hij => hi (hij ▸ hj)
  refine ⟨?_, ?_, ?_, ?_⟩ <;> by_contra hc
  · exact (h.ime hc).elim (hne ⟨rfl, rfl⟩) (hne ⟨rfl, rfl⟩)
  · exact (h.imeSched hc).elim (hne ⟨rfl, rfl⟩) (hne ⟨rfl, rfl⟩)
  · exact hne ⟨rfl, rfl⟩ (h.halted hc)
  · obtain ⟨n, hn⟩ := h.stopped hc
    exact hne ⟨rfl, rfl⟩ hn

/-- The one store of a byte leaves what it does not touch. -/
theorem Accesses.peek_byteStore (h : Accesses i s f w) (hi : i.storeAddr s = some a)
    (hx : s.touches a x = false) : w.peek x = s.peek x := by
  cases h with
  | reads n _ => rfl
  | readRaises a n k _ _ => rfl
  | byteStore a' v n ha _ hw =>
    cases hi.symm.trans ha
    rw [← hw.2]
    exact busWrite_peek v hx
  | wordStore nn hnn _ => subst hnn; cases hi
  | push v ha _ _ _ => rw [ha] at hi; cases hi
  | invalid x _ _ => rfl

/-- Settles O36: one store, and the registers and latches at the end of its rule. -/
theorem byteStoreFrame : Obligations.ByteStoreFrame := by
  intro i s t a ha h _ ht
  obtain ⟨w, hacc, he⟩ := exec_completed h ht
  have hstore : i.storeAddr s ≠ none := by rw [ha]; exact Option.some_ne_none a
  have hregs := he.byteRegs hstore
  refine ⟨fun x hx => (he.peek x).trans (hacc.peek_byteStore ha hx), hregs.keeps, hregs.pointer,
    fun hf => onlyTheTableWritesFlags i s t hf h, he.latches.kept fun hq => hstore hq.1⟩

end exec

/-! ### Two writes at adjacent addresses -/

section pair
variable {s u w : State} {a p q x : Word} {v v' : Byte}

theorem eq_of_intercept_bootDisable {rev : Revision} (h : intercept rev a = some .bootDisable) :
    a = 0xFF50#16 := by
  unfold intercept at h
  split at h
  · cases h
  · split at h
    · cases h
    · split at h
      next ha => exact ha
      next => cases h

/-- A device moves the bank registers by a control write alone (20_memory R115). -/
theorem deviceSet8_banking (d : DeviceId) (a : Word) (v : Byte) (s : State) :
    (a ≠ 0xFF50#16 → (deviceSet8 d a v s).state.bootOverlay = s.bootOverlay) ∧
      (inRomArea a = false → (deviceSet8 d a v s).state.cart.mbc = s.cart.mbc) := by
  cases d <;> simp only [deviceSet8]
  case cartridge =>
    split
    next c hc =>
      refine ⟨fun _ => rfl, fun hrom => ?_⟩
      simp only [Cart.set8, hrom, Bool.false_eq_true, if_false] at hc
      split at hc
      · cases hc
        obtain h | ⟨x, h⟩ := s.cart.ramWrite_cases s.params a v <;> rw [Eff.state_done, h]
      · cases hc
    next => exact ⟨fun _ => rfl, fun _ => rfl⟩
  case ramBanks =>
    split
    next t ht =>
      obtain ⟨i, -, rfl⟩ | ⟨i, -, -, rfl⟩ := ramBanksSet8_cases ht <;>
        exact ⟨fun _ => rfl, fun _ => rfl⟩
    next => exact ⟨fun _ => rfl, fun _ => rfl⟩
  case interruptController =>
    split
    next t ht =>
      obtain ⟨-, rfl⟩ | ⟨-, rfl⟩ := interruptSet8_cases ht <;> exact ⟨fun _ => rfl, fun _ => rfl⟩
    next => exact ⟨fun _ => rfl, fun _ => rfl⟩
  all_goals exact ⟨fun _ => rfl, fun _ => rfl⟩

/-- A write moves the overlay latch at its address alone, and the bank registers by a control write
alone (20_memory R61, R78, R115). -/
theorem busWrite_banking (a : Word) (v : Byte) (s : State) :
    (a ≠ 0xFF50#16 → (busWrite a v s).state.bootOverlay = s.bootOverlay) ∧
      (inRomArea a = false → (busWrite a v s).state.cart.mbc = s.cart.mbc) := by
  unfold busWrite
  split
  next =>
    obtain ⟨m, l, h⟩ := dmaCopy_state (join v 0x00#8) .spriteTable 160 0 s
    rw [spriteDma, h]
    exact ⟨fun _ => rfl, fun _ => rfl⟩
  next =>
    unfold vramBlockTransfer
    split
    · exact ⟨fun _ => rfl, fun _ => rfl⟩
    · obtain ⟨m, l, h⟩ := syncBlockTransfer_state (blockLength v) s
      rw [h]
      exact ⟨fun _ => rfl, fun _ => rfl⟩
  next hi =>
    refine ⟨fun hne => absurd (eq_of_intercept_bootDisable hi) hne, fun _ => ?_⟩
    simp only [bootDisable, Eff.state_done]
    split <;> rfl
  next =>
    split
    next d _ => exact deviceSet8_banking d a v s
    next => exact ⟨fun _ => rfl, fun _ => rfl⟩

theorem Cart.ramIndex_congr {c d : Cart} (hm : d.mbc = c.mbc) (hl : d.ramLen = c.ramLen)
    (x : Word) : d.ramIndex x = c.ramIndex x := by
  unfold Cart.ramIndex
  rw [hm, hl]

/-- The cartridge takes no byte elsewhere (20_memory R115). -/
theorem Cart.set8_eq_none {c : Cart} {p : Params} (hrom : inRomArea a = false)
    (hwindow : inRamWindow a = false) : c.set8 p a v = none := by
  rw [Cart.set8, hrom, hwindow]
  rfl

/-- The address before the ROM area, at the wrap, lies outside the RAM window. -/
theorem inRamWindow_of_romArea_above (h : inRomArea a = false)
    (h' : inRomArea (a + 1#16) = true) : inRamWindow a = false := by
  simp only [inRomArea, decide_eq_false_iff_not, decide_eq_true_iff] at h h'
  simp only [inRamWindow, Bool.and_eq_false_iff, decide_eq_false_iff_not]
  bv_omega

/-- No address next to the overlay's latch lies under the overlay (20_memory R78). -/
theorem inOverlay_below_latch (rev : Revision) (h : a + 1#16 = 0xFF50#16) :
    inOverlay rev a = false := by
  have ha : a.toNat = 0xFF4F := by bv_omega
  cases rev <;> simp only [inOverlay, ha] <;> decide

/-- What a store touches depends on the routing and, in the RAM window, on the cells behind it. -/
theorem touches_congr {t : State} (hparams : t.params = s.params) (hroute : t.route a = s.route a)
    (hindex : intercept s.params.revision a = none → s.route a = .ok .cartridge →
      inRomArea a = false → t.cart.mbc = s.cart.mbc ∧ t.cart.ramLen = s.cart.ramLen) :
    t.touches a x = s.touches a x := by
  simp only [State.touches, hparams, hroute]
  cases hi : intercept s.params.revision a with
  | some c => cases c <;> rfl
  | none =>
    cases hr : s.route a with
    | error k => rfl
    | ok d =>
      cases d with
      | cartridge =>
        cases hrom : inRomArea a with
        | true => simp only [if_true]
        | false =>
          obtain ⟨hmbc, hlen⟩ := hindex hi hr hrom
          simp only [Cart.ramIndex_congr hmbc hlen]
      | _ => rfl

/-- The first write of a word, at `a + 1`, leaves what the second touches: it takes the overlay from
no address near it, and it is a control write only where the second is one too, or not completed. -/
theorem touches_of_write_above (h : busWrite (a + 1#16) v (s.setSp q) = .done () u)
    (h' : busWrite a v' (u.setSp p) = .done () w) : u.touches a x = s.touches a x := by
  have hcore := busWrite_done h
  have hparams : u.params = s.params := hcore.params
  obtain ⟨hoverlay, hmbc⟩ := busWrite_banking (a + 1#16) v (s.setSp q)
  rw [h, Eff.state_done] at hoverlay hmbc
  have hroute : u.route a = s.route a := by
    refine route_congr_of_overlay hcore.map hcore.slots hparams ?_
    by_cases hne : a + 1#16 = 0xFF50#16
    · exact .inr (inOverlay_below_latch _ hne)
    · exact .inl (hoverlay hne)
  refine touches_congr hparams hroute fun hi hr hrom => ?_
  cases habove : inRomArea (a + 1#16) with
  | false => exact ⟨hmbc habove, hcore.ramLen⟩
  | true =>
    have hwindow : inRamWindow a = false := inRamWindow_of_romArea_above hrom habove
    rw [← hparams] at hi
    rw [busWrite_of_route (s := u.setSp p) v' hi (hroute.trans hr), deviceSet8,
      Cart.set8_eq_none hrom hwindow] at h'
    cases h'

/-- Two writes at adjacent addresses leave what neither touches. -/
theorem writes_peek (h : busWrite (a + 1#16) v (s.setSp q) = .done () u)
    (h' : busWrite a v' (u.setSp p) = .done () w) (hx : s.touches a x = false)
    (hx' : s.touches (a + 1#16) x = false) : w.peek x = s.peek x := by
  have hfirst := busWrite_peek (s := s.setSp q) v hx'
  have htouches : (u.setSp p).touches a x = false := (touches_of_write_above h h').trans hx
  have hsecond := busWrite_peek v' htouches
  rw [h, Eff.state_done] at hfirst
  rw [h', Eff.state_done] at hsecond
  exact hsecond.trans hfirst

/-- A push that completes is its two writes (41_load16 R210). -/
theorem pushes_of_push16 {v : Word} (h : push16 v s = .done () w) : Pushes v s w := by
  cases hfirst : busWrite (s.regs.sp - 1#16) (hiByte v) (s.setSp (s.regs.sp - 1#16)) with
  | done _ u => exact ⟨u, hfirst, (push16_of_first hfirst).symm.trans h⟩
  | raise k u => rw [push16_of_first_raise hfirst] at h; cases h

theorem Pushes.peek {v : Word} (h : Pushes v s w) (hx : s.touches (s.regs.sp - 2#16) x = false)
    (hx' : s.touches (s.regs.sp - 2#16 + 1#16) x = false) : w.peek x = s.peek x := by
  obtain ⟨u, hhi, hlo⟩ := h
  have habove : s.regs.sp - 1#16 = s.regs.sp - 2#16 + 1#16 := by bv_omega
  rw [habove] at hhi
  exact writes_peek hhi hlo hx hx'

theorem busWrite16_peek {v : Word} (h : busWrite16 a v s = .done () w)
    (hx : s.touches a x = false) (hx' : s.touches (a + 1#16) x = false) :
    w.peek x = s.peek x := by
  cases hhi : busWrite (a + 1#16) (hiByte v) s with
  | done _ u =>
    rw [busWrite16, hhi, Eff.bind_done] at h
    exact writes_peek (p := u.regs.sp) (q := s.regs.sp) hhi h hx hx'
  | raise k u =>
    rw [busWrite16, hhi, Eff.bind_raise] at h
    cases h

end pair

section wordStore
variable {i : Instr} {s w : State} {a x : Word}

/-- The two stores of a word leave what neither touches. -/
theorem Accesses.peek_wordStore (h : Accesses i s none w) (hi : i.storeAddr16 s = some a)
    (hx : s.touches a x = false) (hx' : s.touches (a + 1#16) x = false) :
    w.peek x = s.peek x := by
  cases h with
  | reads n _ => rfl
  | byteStore a' v n _ h16 _ => rw [h16] at hi; cases hi
  | wordStore nn hnn hw =>
    subst hnn
    cases hi
    exact busWrite16_peek (Eff.eq_done_of_leaves hw) hx hx'
  | push v _ h16 _ hw =>
    cases hi.symm.trans h16
    exact (pushes_of_push16 (Eff.eq_done_of_leaves hw)).peek hx hx'

/-- Settles O37: two stores, and the registers and latches at the end of their rule. -/
theorem wordStoreFrame : Obligations.WordStoreFrame := by
  intro i s t a ha h _ ht
  obtain ⟨w, hacc, he⟩ := exec_completed h ht
  have hstore : i.storeAddr16 s ≠ none := by rw [ha]; exact Option.some_ne_none a
  have hregs := he.wordRegs hstore
  exact ⟨fun x hx hx' => (he.peek x).trans (hacc.peek_wordStore ha hx hx'), hregs.keeps, hregs.sp,
    he.latches.kept fun hq => hstore hq.2⟩

end wordStore

/-! ### A wired machine -/

section wired
variable {i : Instr} {s w : State} {f : Option Fatal}

/-- In a wired machine no access is fatal: an invalid byte alone is (60_exceptions R366). -/
theorem Accesses.fault_of_wired (h : Accesses i s f w) (hs : s.wired = true) :
    f = none ∨ ∃ x : BadByte, i = .invalid x ∧ f = some (.invalidOpcode s.regs.pc x.code) := by
  have hreads (n : Nat) : ({ s with extReads := n } : State).wired = true := hs
  cases h with
  | reads n _ => exact .inl rfl
  | readRaises a n k _ hr =>
    have hnone := busRead_fault_of_wired (hreads n) a
    rw [hr] at hnone
    cases hnone
  | byteStore a v n _ _ hw => exact .inl (hw.1.symm.trans (busWrite_fault_of_wired (hreads n) a v))
  | wordStore nn _ hw => exact .inl (hw.1.symm.trans (busWrite16_fault_of_wired hs nn _))
  | push v _ _ _ hw => exact .inl (hw.1.symm.trans (push16_fault_of_wired hs v))
  | invalid x hi _ => exact .inr ⟨x, hi, rfl⟩

/-- The invalid variants (46_cpu_control R336; log 16). -/
theorem wellFormed_eq_false (i : Instr) :
    i.wellFormed = false ↔ ∃ x : BadByte, i = .invalid x := by
  refine ⟨fun h => ?_, ?_⟩
  · rw [Instr.wellFormed, Bool.not_eq_false'] at h
    unfold Instr.isInvalid at h
    split at h
    · exact ⟨.xD3, rfl⟩
    · exact ⟨.xDB, rfl⟩
    · exact ⟨.xDD, rfl⟩
    · exact ⟨.xE3, rfl⟩
    · exact ⟨.xE4, rfl⟩
    · exact ⟨.xEB, rfl⟩
    · exact ⟨.xEC, rfl⟩
    · exact ⟨.xED, rfl⟩
    · exact ⟨.xF4, rfl⟩
    · exact ⟨.xFC, rfl⟩
    · exact ⟨.xFD, rfl⟩
    · cases h
  · rintro ⟨x, rfl⟩
    cases x <;> rfl

/-- Settles O43: the accesses complete in a wired machine. -/
theorem everyInstructionCompletesWhenWired : Obligations.EveryInstructionCompletesWhenWired := by
  refine ⟨fun i s hs hi => ?_, wellFormed_eq_false⟩
  obtain ⟨t, h⟩ := exec_next i s
  obtain ⟨w, ha, he⟩ | ⟨k, w, ha, rfl⟩ := exec_cases h
  · exact ⟨t, h, he.fatal ha⟩
  · obtain hnone | ⟨x, rfl, -⟩ := ha.fault_of_wired hs
    · cases hnone
    · rw [(wellFormed_eq_false _).mpr ⟨x, rfl⟩] at hi
      cases hi

end wired

end Sys2Proof.Machine
end

section
/-! PROOFS. The step (60_exceptions R350, R353, R354, R360, R370, R371): what it makes of a state, by its
cases, and what every step keeps. -/

namespace Sys2Proof.Machine

/-! ### The fetch window -/

/-- A fetch counts the oracle's answers at most, completed or not (30_encoding R141). -/
theorem fetch_cases (s : State) :
    (∃ x n, fetch s = .done x { s with extReads := n }) ∨
      ∃ k n, fetch s = .raise k { s with extReads := n } := by
  unfold fetch
  simp only
  obtain ⟨b0, n, h0⟩ | ⟨k, h0⟩ := busRead_cases s.regs.pc s
  · rw [h0, Eff.bind_done]
    generalize s.regs.pc + (if s.haltBugArmed = true then 0#16 else 1#16) = p
    obtain ⟨b1, m, h1⟩ | ⟨k, h1⟩ := busRead_cases p { s with extReads := n }
    · rw [h1, Eff.bind_done]
      obtain ⟨b2, l, h2⟩ | ⟨k, h2⟩ := busRead_cases (p + 1#16) { s with extReads := m }
      · rw [h2, Eff.bind_done]; exact .inl ⟨_, l, rfl⟩
      · rw [h2, Eff.bind_raise]; exact .inr ⟨k, m, rfl⟩
    · rw [h1, Eff.bind_raise]; exact .inr ⟨k, n, rfl⟩
  · rw [h0, Eff.bind_raise]; exact .inr ⟨k, s.extReads, rfl⟩

/-- The fetch window of a wired machine reads (60_exceptions R366). -/
theorem fetch_fault_of_wired {s : State} (h : s.wired = true) : (fetch s).fault = none := by
  have hread (p : Word) (n : Nat) :
      ∃ v m, busRead p { s with extReads := n } = .done v { s with extReads := m } :=
    busRead_readable (s := { s with extReads := n }) (readable_of_wired h p)
  unfold fetch
  simp only
  generalize s.regs.pc + (if s.haltBugArmed = true then 0#16 else 1#16) = p
  obtain ⟨b0, n, h0⟩ := hread s.regs.pc s.extReads
  obtain ⟨b1, m, h1⟩ := hread p n
  obtain ⟨b2, l, h2⟩ := hread (p + 1#16) m
  have h0' : busRead s.regs.pc s = .done b0 { s with extReads := n } := h0
  rw [h0', Eff.bind_done, h1, Eff.bind_done, h2, Eff.bind_done, Eff.fault_done]

/-! ### The cases of a step -/

/-- `s`, awake, after reads that the oracle answered up to its answer `n`. -/
def State.awakeAt (s : State) (n : Nat) : State := { s with halted := false, extReads := n }

section cpu
variable {s t u w : State} {k : Fatal} {p : Source}

theorem cpuStep_of_fatal (h : s.fatal = some k) : cpuStep s = .fault (.alreadyFatal k) := by
  rw [cpuStep, h]

theorem cpuStep_of_stopped (hf : s.fatal = none) (hs : s.stopped = true) :
    cpuStep s = .next s.idle := by
  rw [cpuStep, hf]
  exact if_pos hs

theorem cpuStep_of_halted (hf : s.fatal = none) (hs : s.stopped = false) (hp : s.pending = none)
    (hh : s.halted = true) : cpuStep s = .next s.idle := by
  simp only [cpuStep, hf, hs, hp, hh, Bool.false_eq_true, if_false, if_true]

theorem cpuStep_of_interrupt (hf : s.fatal = none) (hs : s.stopped = false)
    (hp : s.pending = some p) (hi : s.ime = true) : cpuStep s = dispatch p s := by
  simp only [cpuStep, hf, hs, hp, hi, Bool.false_eq_true, if_false, if_true]

/-- Where an instruction is fetched the core is awake: it was, or the pending request wakes it. -/
theorem cpuStep_of_fetches (h : s.fetches) :
    cpuStep s = runInstruction { s with halted := false } := by
  obtain ⟨hf, hs, ⟨hp, hh⟩ | ⟨hp, hi⟩⟩ := h
  · have hawake : { s with halted := false } = s := by rw [← hh]
    rw [hawake]
    simp only [cpuStep, hf, hs, hp, hh, Bool.false_eq_true, if_false]
  · obtain ⟨p, hp⟩ := Option.ne_none_iff_exists'.mp hp
    simp only [cpuStep, hf, hs, hp, hi, Bool.false_eq_true, if_false]

/-- What `step()` makes of a state without a fatal record, before the boundary (60_exceptions R350). -/
inductive Steps (s : State) : State → Prop
  | idle : Steps s s.idle
  | interrupt {p : Source} {t : State} (hs : s.stopped = false) (h : dispatch p s = .next t) :
      Steps s t
  | fetchRaises {k : Fatal} {n : Nat}
      (h : fetch { s with halted := false } = .raise k (s.awakeAt n)) :
      Steps s ((s.awakeAt n).raised k)
  | runs {i : Instr} {n : Nat} {t : State} (hs : s.stopped = false)
      (h : exec i (s.awakeAt n) = .next t) : Steps s (t.promoted s.imeSched)

theorem runInstruction_steps (hs : s.stopped = false) :
    ∃ t, runInstruction { s with halted := false } = .next t ∧ Steps s t := by
  unfold runInstruction
  obtain ⟨⟨b0, b1, b2⟩, n, h⟩ | ⟨k, n, h⟩ := fetch_cases { s with halted := false }
  · obtain ⟨t, ht⟩ := exec_next (decode b0 b1 b2) (s.awakeAt n)
    rw [h]
    simp only
    rw [show exec (decode b0 b1 b2) { s with halted := false, extReads := n } = .next t from ht]
    exact ⟨_, rfl, .runs hs ht⟩
  · rw [h]
    exact ⟨_, rfl, .fetchRaises h⟩

/-- A step of a state without a fatal record is one of its cases. -/
theorem cpuStep_steps (hf : s.fatal = none) : ∃ t, cpuStep s = .next t ∧ Steps s t := by
  cases hs : s.stopped with
  | true => exact ⟨_, cpuStep_of_stopped hf hs, .idle⟩
  | false =>
    cases hp : s.pending with
    | none =>
      cases hh : s.halted with
      | true => exact ⟨_, cpuStep_of_halted hf hs hp hh, .idle⟩
      | false =>
        rw [cpuStep_of_fetches ⟨hf, hs, .inl ⟨hp, hh⟩⟩]
        exact runInstruction_steps hs
    | some p =>
      cases hi : s.ime with
      | true =>
        obtain ⟨t, ht⟩ := Eff.andThen_next (push16 s.regs.pc (s.enterHandler p))
          fun _ t => t.jump p.handler 5
        exact ⟨t, (cpuStep_of_interrupt hf hs hp hi).trans ht, .interrupt hs ht⟩
      | false =>
        rw [cpuStep_of_fetches ⟨hf, hs, .inr ⟨by rw [hp]; exact Option.some_ne_none p, hi⟩⟩]
        exact runInstruction_steps hs

theorem cpuStep_cases (h : cpuStep s = .next t) : s.fatal = none ∧ Steps s t := by
  cases hf : s.fatal with
  | none =>
    obtain ⟨u, hu, hsteps⟩ := cpuStep_steps hf
    cases h.symm.trans hu
    exact ⟨rfl, hsteps⟩
  | some k => cases (cpuStep_of_fatal hf).symm.trans h

/-- A dispatch: the push completes, or it is fatal (60_exceptions R353). -/
theorem dispatch_cases (h : dispatch p s = .next t) :
    (∃ w, push16 s.regs.pc (s.enterHandler p) = .done () w ∧ t = w.ends w.regs p.handler 5) ∨
      ∃ k w, push16 s.regs.pc (s.enterHandler p) = .raise k w ∧ t = w.raised k := by
  obtain ⟨_, w, hd, ht⟩ | hraise := Eff.andThen_cases h
  · exact .inl ⟨w, hd, ht⟩
  · exact .inr hraise

/-! ### The boundary -/

theorem tick_of_fatal (h : s.fatal ≠ none) : s.tick = s :=
  if_pos (Option.isSome_iff_ne_none.mpr h)

theorem atBoundary_of_fatal (h : s.fatal ≠ none) : s.atBoundary = s :=
  if_pos (Option.isSome_iff_ne_none.mpr h)

/-- The tick requests what the head of the schedule raises (60_exceptions R343, R370). -/
theorem tick_of_running (h : s.fatal = none) :
    s.tick = { s with inputs := s.inputs.tail }.requestAll (s.inputs.headD {}).raised := by
  have hnot : ¬s.fatal.isSome = true := by rw [h]; exact Bool.false_ne_true
  exact if_neg hnot

theorem tick_eq_of_running (h : s.fatal = none) :
    s.tick = { s with intRequest := s.tick.intRequest, inputs := s.inputs.tail } := by
  have hrequests := (requestAll_eq (s.inputs.headD {}).raised { s with inputs := s.inputs.tail }).1
  rw [← tick_of_running h] at hrequests
  exact hrequests

theorem tick_getLsbD (h : s.fatal = none) (j : Nat) : s.tick.intRequest.getLsbD j =
    (s.intRequest.getLsbD j || (s.inputs.headD {}).raised.any fun i => i.bit == j) := by
  rw [tick_of_running h, (requestAll_eq _ _).2]

theorem tick_stopped (s : State) : s.tick.stopped = s.stopped := by
  obtain ⟨r, i, h⟩ := tick_eq s
  rw [h]

/-- The host's action at the boundary ends the stopped state (60_exceptions R371). -/
theorem atBoundary_of_running (h : s.fatal = none) :
    s.atBoundary = { s.tick with stopped := s.stopped && !(s.inputs.headD {}).wake } := by
  have hnot : ¬s.fatal.isSome = true := by rw [h]; exact Bool.false_ne_true
  have hwake : s.boundary.wake = (s.inputs.headD {}).wake := rfl
  rw [State.atBoundary, if_neg hnot, hwake]
  cases (s.inputs.headD {}).wake with
  | true => simp only [if_true, Bool.not_true, Bool.and_false, State.stopWake]
  | false =>
    simp only [Bool.false_eq_true, if_false, Bool.not_false, Bool.and_true]
    rw [← tick_stopped s]

theorem atBoundary_stopped (h : s.atBoundary.stopped = true) : s.stopped = true := by
  cases hf : s.fatal with
  | none =>
    rw [atBoundary_of_running hf] at h
    exact (Bool.and_eq_true_iff.mp h).1
  | some k =>
    rwa [atBoundary_of_fatal (by rw [hf]; exact Option.some_ne_none k)] at h

theorem atBoundary_fatal (s : State) : s.atBoundary.fatal = s.fatal := by
  obtain ⟨r, st, i, h⟩ := atBoundary_eq s
  rw [h]

/-- The promotion at the end of a step writes the gate and its schedule (60_exceptions R350). -/
theorem promoted_eq (t : State) (b : Bool) :
    t.promoted b = { t with ime := (t.promoted b).ime, imeSched := (t.promoted b).imeSched } := by
  unfold State.promoted
  split <;> rfl

theorem step_of_cpuStep (h : cpuStep s = .next t) : step s = .next t.atBoundary := by
  rw [step, singleStep, h]

theorem step_cases (h : step s = .next t) :
    s.fatal = none ∧ ∃ u, Steps s u ∧ t = u.atBoundary := by
  cases hc : cpuStep s with
  | next u =>
    obtain ⟨hf, hsteps⟩ := cpuStep_cases hc
    cases (step_of_cpuStep hc).symm.trans h
    exact ⟨hf, u, hsteps, rfl⟩
  | fault r => rw [step, singleStep, hc] at h; cases h
  | refused r => rw [step, singleStep, hc] at h; cases h

end cpu

/-! ### The configuration -/

/-- What no step changes (20_memory R136, 10_state R39, R40). -/
structure Configuration where
  rom : Memory
  variant : Variant
  romBanks : Nat
  ramLen : Nat
  bootRom : Option Image
  map : List Registration
  slots : List DeviceId
  params : Params

def State.configuration (s : State) : Configuration where
  rom := s.cart.rom
  variant := s.cart.mbc.variant
  romBanks := s.cart.romBanks
  ramLen := s.cart.ramLen
  bootRom := s.bootRom
  map := s.map
  slots := s.slots
  params := s.params

/-- The configuration is kept, and the overlay does not come back (10_state R40). -/
def SameConfig (s t : State) : Prop :=
  t.configuration = s.configuration ∧ (t.bootOverlay = true → s.bootOverlay = true)

section config
variable {i : Instr} {s t u w : State}

theorem SameButSp.config (h : SameButSp s t) : SameConfig s t := by
  refine ⟨?_, h.overlayOff⟩
  simp only [State.configuration, h.rom, h.variant, h.romBanks, h.ramLen, h.bootRom, h.map, h.slots,
    h.params]
  rfl

theorem exec_config (h : exec i s = .next t) : SameConfig s t := by
  obtain ⟨w, ha, he⟩ | ⟨k, w, ha, rfl⟩ := exec_cases h
  · rw [he.frame]
    exact ha.sameButSp.config
  · exact ha.sameButSp.config

theorem push16_done_sameButSp {v : Word} (h : push16 v s = .done () w) : SameButSp s w := by
  have hsame := push16_sameButSp v s
  rwa [h] at hsame

theorem push16_raise_sameButSp {v : Word} {k : Fatal} (h : push16 v s = .raise k w) :
    SameButSp s w := by
  have hsame := push16_sameButSp v s
  rwa [h] at hsame

theorem Steps.config (h : Steps s t) : SameConfig s t := by
  cases h with
  | idle => exact ⟨rfl, id⟩
  | interrupt _ hd =>
    obtain ⟨w, hw, rfl⟩ | ⟨k, w, hw, rfl⟩ := dispatch_cases hd
    · exact (push16_done_sameButSp hw).config
    · exact (push16_raise_sameButSp hw).config
  | fetchRaises _ => exact ⟨rfl, id⟩
  | runs _ hx =>
    have hconfig := exec_config hx
    rw [promoted_eq]
    exact hconfig

theorem step_config (h : step s = .next t) : SameConfig s t := by
  obtain ⟨-, u, hsteps, rfl⟩ := step_cases h
  obtain ⟨r, st, i, hb⟩ := atBoundary_eq u
  rw [hb]
  exact hsteps.config

/-- Settles O42: no case of a step touches the configuration. -/
theorem configurationNeverChanges : Obligations.ConfigurationNeverChanges := by
  intro s t h
  obtain ⟨hsame, hoverlay⟩ := step_config h
  exact ⟨congrArg Configuration.rom hsame, congrArg Configuration.variant hsame,
    congrArg Configuration.romBanks hsame, congrArg Configuration.ramLen hsame,
    congrArg Configuration.bootRom hsame, congrArg Configuration.map hsame,
    congrArg Configuration.slots hsame, congrArg Configuration.params hsame,
    fun hoff => Bool.eq_false_iff.mpr fun hon => Bool.eq_false_iff.mp hoff (hoverlay hon)⟩

theorem SameConfig.wired (h : SameConfig s t) (hs : s.wired = true) : t.wired = true := by
  obtain ⟨hsame, hoverlay⟩ := h
  have hmap : t.map = s.map := congrArg Configuration.map hsame
  have hslots : t.slots = s.slots := congrArg Configuration.slots hsame
  obtain ⟨hdefault, hfilled⟩ := s.wired_iff.mp hs
  refine t.wired_iff.mpr ⟨hmap.trans hdefault, fun d hd => ?_⟩
  rw [hslots]
  exact hfilled d ((mem_builtSlots _ _).mpr (((mem_builtSlots _ _).mp hd).imp_right hoverlay))

/-- A step of a wired machine records an invalid byte or nothing (60_exceptions R361, R363, R366). -/
theorem Steps.fatal_of_wired (h : Steps s t) (hs : s.wired = true) (hf : s.fatal = none) :
    t.fatal = none ∨ ∃ x : BadByte, t.fatal = some (.invalidOpcode s.regs.pc x.code) := by
  have hwired (n : Nat) : (s.awakeAt n).wired = true := hs
  cases h with
  | idle => exact .inl hf
  | @interrupt p _ _ hd =>
    have hfault := push16_fault_of_wired (s := s.enterHandler p) hs s.regs.pc
    obtain ⟨w, hw, rfl⟩ | ⟨k, w, hw, rfl⟩ := dispatch_cases hd
    · exact .inl ((push16_done_sameButSp hw).fatal.trans hf)
    · rw [hw] at hfault
      cases hfault
  | fetchRaises hraise =>
    have hfault := fetch_fault_of_wired (hwired s.extReads)
    rw [show fetch (s.awakeAt s.extReads) = _ from hraise] at hfault
    cases hfault
  | runs _ hx =>
    rw [promoted_eq]
    obtain ⟨w, ha, he⟩ | ⟨k, w, ha, rfl⟩ := exec_cases hx
    · exact .inl ((he.fatal ha).trans hf)
    · obtain hnone | ⟨x, -, hk⟩ := ha.fault_of_wired (hwired _)
      · cases hnone
      · exact .inr ⟨x, hk⟩

/-- Settles O44: the wiring is configuration, and every case of a step of it completes but an invalid
byte. -/
theorem wiredMachineFailsOnInvalidBytesOnly :
    Obligations.WiredMachineFailsOnInvalidBytesOnly := by
  intro s hs hf
  obtain ⟨t, hcpu, hsteps⟩ := cpuStep_steps hf
  have hstep := step_of_cpuStep hcpu
  refine ⟨_, hstep, (step_config hstep).wired hs, ?_⟩
  rw [atBoundary_fatal]
  exact hsteps.fatal_of_wired hs hf

end config

/-! ### The invariant -/

section invariant
variable {i : Instr} {s t u w : State} {f : Option Fatal}

theorem busWrite16_inv (a v : Word) (h : s.inv = true) : (busWrite16 a v s).state.inv = true := by
  have hfirst := busWrite_inv (a + 1#16) (hiByte v) h
  unfold busWrite16
  cases hw : busWrite (a + 1#16) (hiByte v) s with
  | done _ u => rw [hw] at hfirst; exact busWrite_inv a (loByte v) hfirst
  | raise k u => rw [hw] at hfirst; exact hfirst

/-- `SP` is none of the invariant's. -/
theorem State.inv_setSp (s : State) (v : Word) : (s.setSp v).inv = s.inv :=
  State.inv_congr rfl rfl rfl rfl rfl rfl rfl rfl

theorem push16_inv (v : Word) (h : s.inv = true) : (push16 v s).state.inv = true := by
  rw [← s.inv_setSp (s.regs.sp - 1#16)] at h
  have hfirst := busWrite_inv (s.regs.sp - 1#16) (hiByte v) h
  cases hw : busWrite (s.regs.sp - 1#16) (hiByte v) (s.setSp (s.regs.sp - 1#16)) with
  | done _ u =>
    rw [hw, Eff.state_done, ← u.inv_setSp (s.regs.sp - 2#16)] at hfirst
    rw [push16_of_first hw]
    exact busWrite_inv _ _ hfirst
  | raise k u =>
    rw [hw] at hfirst
    rw [push16_of_first_raise hw]
    exact hfirst

theorem Accesses.inv (h : Accesses i s f w) (hs : s.inv = true) : w.inv = true := by
  have hreads (n : Nat) : ({ s with extReads := n } : State).inv = true :=
    (State.inv_congr rfl rfl rfl rfl rfl rfl rfl rfl).trans hs
  cases h with
  | reads n _ => exact hreads n
  | readRaises a n k _ _ => exact hreads n
  | byteStore a v n _ _ hw => rw [← hw.2]; exact busWrite_inv a v (hreads n)
  | wordStore nn _ hw => rw [← hw.2]; exact busWrite16_inv nn _ hs
  | push v _ _ _ hw => rw [← hw.2]; exact push16_inv v hs
  | invalid x _ _ => exact hs

/-- An instruction that runs from an awake core leaves it halted, stopped, or neither. -/
theorem LatchRule.not_both (h : LatchRule i s t) (hh : s.halted = false) (hs : s.stopped = false) :
    ¬(t.halted = true ∧ t.stopped = true) := by
  rintro ⟨hth, hts⟩
  have hhalt : i = .halt := h.halted (by rw [hth, hh]; exact nofun)
  obtain ⟨n, hstop⟩ := h.stopped (by rw [hts, hs]; exact nofun)
  cases hhalt.symm.trans hstop

theorem State.inv_raised (w : State) (k : Fatal) : (w.raised k).inv = w.inv :=
  State.inv_congr rfl rfl rfl rfl rfl rfl rfl rfl

theorem exec_inv (h : exec i s = .next t) (hs : s.inv = true) (hh : s.halted = false)
    (hst : s.stopped = false) : t.inv = true := by
  obtain ⟨w, ha, he⟩ | ⟨k, w, ha, rfl⟩ := exec_cases h
  · obtain ⟨hcart, hwram, hhram, -, -, -⟩ := w.inv_iff.mp (ha.inv hs)
    obtain ⟨-, -, -, hlow, -, -⟩ := s.inv_iff.mp hs
    have hflags : t.regs.f &&& 0x0F#8 = 0x00#8 :=
      he.closing.flags.elim (fun hf => hf ▸ hlow) fun hf => hf.2
    have hbug : t.haltBugArmed = true → t.params.haltBug = true := by
      rw [show t.params = s.params from congrArg Configuration.params (exec_config h).1]
      exact he.latches.haltBug
    have hboth := he.latches.not_both hh hst
    refine t.inv_iff.mpr ⟨?_, ?_, ?_, hflags, hboth, hbug⟩ <;> rw [he.frame]
    · exact hcart
    · exact hwram
    · exact hhram
  · rw [State.inv_raised]
    exact ha.inv hs

/-- The core that a request wakes, or that is awake, keeps the invariant. -/
theorem State.inv_awakeAt (s : State) (n : Nat) (h : s.inv = true) : (s.awakeAt n).inv = true := by
  obtain ⟨hcart, hwram, hhram, hlow, -, hbug⟩ := s.inv_iff.mp h
  exact (s.awakeAt n).inv_iff.mpr
    ⟨hcart, hwram, hhram, hlow, fun hb => Bool.false_ne_true hb.1, hbug⟩

theorem State.inv_enterHandler (s : State) (p : Source) (h : s.inv = true) :
    (s.enterHandler p).inv = true := by
  obtain ⟨hcart, hwram, hhram, hlow, -, -⟩ := s.inv_iff.mp h
  exact (s.enterHandler p).inv_iff.mpr
    ⟨hcart, hwram, hhram, hlow, fun hb => Bool.false_ne_true hb.1, fun hb => absurd hb (by simp)⟩

/-- A dispatch ends with the registers of the push and the latch of the `HALT` bug clear. -/
theorem State.inv_ends (w : State) (p : Word) (n : Nat) (h : w.inv = true) :
    (w.ends w.regs p n).inv = true := by
  obtain ⟨hcart, hwram, hhram, hlow, hboth, -⟩ := w.inv_iff.mp h
  exact (w.ends w.regs p n).inv_iff.mpr
    ⟨hcart, hwram, hhram, hlow, hboth, fun hb => absurd hb Bool.false_ne_true⟩

theorem promoted_inv (t : State) (b : Bool) : (t.promoted b).inv = t.inv := by
  rw [promoted_eq]
  exact State.inv_congr rfl rfl rfl rfl rfl rfl rfl rfl

theorem Steps.inv (h : Steps s t) (hs : s.inv = true) : t.inv = true := by
  cases h with
  | idle => exact (State.inv_congr rfl rfl rfl rfl rfl rfl rfl rfl).trans hs
  | @interrupt p _ _ hd =>
    have hpush := push16_inv s.regs.pc (s.inv_enterHandler p hs)
    obtain ⟨w, hw, rfl⟩ | ⟨k, w, hw, rfl⟩ := dispatch_cases hd
    · rw [hw] at hpush
      exact w.inv_ends _ _ hpush
    · rw [hw] at hpush
      rw [State.inv_raised]
      exact hpush
  | fetchRaises _ => rw [State.inv_raised]; exact s.inv_awakeAt _ hs
  | runs hst hx =>
    rw [promoted_inv]
    exact exec_inv hx (s.inv_awakeAt _ hs) rfl hst

theorem atBoundary_inv (h : s.inv = true) : s.atBoundary.inv = true := by
  have hstopped := atBoundary_stopped (s := s)
  obtain ⟨hcart, hwram, hhram, hlow, hboth, hbug⟩ := s.inv_iff.mp h
  obtain ⟨r, st, i, hb⟩ := atBoundary_eq s
  rw [hb] at hstopped ⊢
  exact State.inv_iff _ |>.mpr
    ⟨hcart, hwram, hhram, hlow, fun hc => hboth ⟨hc.1, hstopped hc.2⟩, hbug⟩

/-- Settles O46: every case of a step keeps the invariant, and so does the boundary. -/
theorem stepKeepsTheInvariant : Obligations.StepKeepsTheInvariant := by
  intro s t hs h
  obtain ⟨-, u, hsteps, rfl⟩ := step_cases h
  exact atBoundary_inv (hsteps.inv hs)

end invariant

/-! ### The statements about one step -/

section step
variable {s t u w : State} {b0 b1 b2 : Byte} {k : Fatal}

/-- A step that fetches runs the decoded instruction (60_exceptions R350). -/
theorem step_of_fetched (hf : s.fetches) (hu : s.FetchedAs b0 b1 b2 u)
    (hx : exec (decode b0 b1 b2) u = .next t) :
    step s = .next (t.promoted s.imeSched).atBoundary := by
  refine step_of_cpuStep ?_
  rw [cpuStep_of_fetches hf, runInstruction, fetch_of_fetchedAs hu]
  simp only [hx]

/-- A fatal read of the window (60_exceptions R354, R360). -/
theorem step_of_fetch_raise (hf : s.fetches)
    (h : fetch { s with halted := false } = .raise k w) :
    step s = .next { s with halted := false, fatal := some k, extReads := w.extReads } := by
  obtain ⟨x, n, hd⟩ | ⟨k', n, hr⟩ := fetch_cases { s with halted := false }
  · cases hd.symm.trans h
  · cases hr.symm.trans h
    have hcpu : cpuStep s = .next ((s.awakeAt n).raised k) := by
      rw [cpuStep_of_fetches hf, runInstruction, h]
      rfl
    rw [step_of_cpuStep hcpu, atBoundary_of_fatal (Option.some_ne_none k)]
    rfl

/-- Settles O50: the fetch window read, or the first of its reads that is fatal. -/
theorem stepRunsTheDecodedInstruction : Obligations.StepRunsTheDecodedInstruction := by
  refine ⟨fun s u t b0 b1 b2 hf hu hx => step_of_fetched hf hu hx,
    fun s u v w b0 b1 k hf hbug hreads => step_of_fetch_raise hf ?_⟩
  have hnext : s.regs.pc + 1#16 + 1#16 = s.regs.pc + 2#16 := by bv_omega
  have hsecond : s.regs.pc + (if s.haltBugArmed = true then 0#16 else 1#16) = s.regs.pc + 1#16 := by
    rw [hbug]
    rfl
  unfold fetch
  simp only [hsecond, hnext]
  obtain h0 | ⟨h0, h1⟩ | ⟨h0, h1, h2⟩ := hreads
  · rw [h0, Eff.bind_raise]
  · rw [h0, Eff.bind_done, h1, Eff.bind_raise]
  · rw [h0, Eff.bind_done, h1, Eff.bind_done, h2, Eff.bind_raise]

/-- Settles O51: the three cases of a step without an instruction. -/
theorem stepWithoutAnInstruction : Obligations.StepWithoutAnInstruction := by
  refine fun s => ⟨fun k hk => ?_, fun hf hs => ?_, fun hf hs hp hh => ?_⟩
  · rw [step, singleStep, cpuStep_of_fatal hk]
  · exact step_of_cpuStep (cpuStep_of_stopped hf hs)
  · exact step_of_cpuStep (cpuStep_of_halted hf hs hp hh)

/-- A dispatch whose push is fatal ends the step with the record (60_exceptions R353, R360). -/
theorem step_of_dispatch_raise {p : Source} (hf : s.fatal = none) (hs : s.stopped = false)
    (hi : s.ime = true) (hp : s.pending = some p)
    (h : push16 s.regs.pc (s.enterHandler p) = .raise k w) : step s = .next (w.raised k) := by
  have hcpu : cpuStep s = .next (w.raised k) := by
    rw [cpuStep_of_interrupt hf hs hp hi, dispatch, h, Eff.andThen_raise]
  rw [step_of_cpuStep hcpu, atBoundary_of_fatal (Option.some_ne_none k)]

/-- Settles O52: the dispatch by the outcome of its push. -/
theorem interruptDispatch : Obligations.InterruptDispatch := by
  intro s e w p k hf hs hi hp he
  have he' : e = s.enterHandler p := he
  subst he'
  refine ⟨fun hpush => ?_, fun hpush => ?_, fun hwrite => ?_⟩
  · have hcpu : cpuStep s = .next (w.jump p.handler 5) := by
      rw [cpuStep_of_interrupt hf hs hp hi, dispatch, pushes_push16 hpush, Eff.andThen_done]
    rw [step_of_cpuStep hcpu, jump_of_pushes hpush]
    rfl
  · have hsame := push16_raise_sameButSp hpush
    exact ⟨step_of_dispatch_raise hf hs hi hp hpush, hsame.regs, hsame.ime, hsame.imeSched,
      hsame.halted⟩
  · obtain ⟨hrequest, hregs⟩ := busWrite_raise hwrite
    exact ⟨step_of_dispatch_raise hf hs hi hp (push16_of_first_raise hwrite), hrequest, hregs⟩

/-- The gate and its schedule at the end of a step are those of the promotion. -/
theorem atBoundary_gate (s : State) :
    s.atBoundary.ime = s.ime ∧ s.atBoundary.imeSched = s.imeSched := by
  obtain ⟨r, st, i, h⟩ := atBoundary_eq s
  rw [h]
  exact ⟨rfl, rfl⟩

/-- The promotion opens the gate where the schedule was set before the instruction and still is
(60_exceptions R350). -/
theorem promoted_of_scheduled (hf : t.fatal = none) (ht : t.imeSched = true) :
    t.promoted true = { t with ime := true, imeSched := false } := by
  unfold State.promoted
  rw [hf, ht]
  rfl

theorem promoted_of_not_scheduled {b : Bool} (h : b = false ∨ t.imeSched = false) :
    t.promoted b = t := by
  unfold State.promoted
  obtain rfl | h := h
  · simp
  · simp [h]

/-- An instruction but `DI` leaves a schedule that is set (46_cpu_control R335). -/
theorem exec_keeps_schedule {i : Instr} (h : exec i u = .next t) (hu : u.imeSched = true)
    (hi : i ≠ .di) : t.imeSched = true := by
  by_contra hc
  have hne : t.imeSched ≠ u.imeSched := fun heq => hc (heq.trans hu)
  obtain ⟨-, -, -, hsched⟩ := onlyControlInstructionsWriteLatches i u t h
  obtain rfl | rfl := hsched hne
  · exact hi rfl
  · rw [exec_ei, execEi_eq] at h
    cases h
    exact hc rfl

/-- Settles O53: the promotion of the schedule sampled before the instruction. -/
theorem enableTakesEffectOneInstructionLater :
    Obligations.EnableTakesEffectOneInstructionLater := by
  intro s u t w b0 b1 b2 hf hu hx ht hw
  obtain ⟨n, rfl⟩ := fetch_done (fetch_of_fetchedAs hu)
  cases (step_of_fetched hf hu hx).symm.trans hw
  obtain ⟨hime, hsched⟩ := atBoundary_gate (t.promoted s.imeSched)
  rw [hime, hsched]
  refine ⟨fun hei hs => ?_, fun hs hdi => ?_, fun hdi => ?_⟩
  · rw [promoted_of_not_scheduled (.inl hs)]
    rw [hei, exec_ei, execEi_eq] at hx
    cases hx
    exact ⟨rfl, rfl⟩
  · rw [hs, promoted_of_scheduled ht (exec_keeps_schedule hx hs hdi)]
    exact ⟨rfl, rfl⟩
  · rw [hdi, exec_di, execDi_eq] at hx
    cases hx
    rw [promoted_of_not_scheduled (.inr rfl)]
    exact ⟨rfl, rfl⟩

end step

end Sys2Proof.Machine
end

section
/-! PROOFS. The frames of the host (60_exceptions R370, R371, R372; log 7, log 18). -/

namespace Sys2Proof.Machine

section frames
variable {n m : Nat} {s t u : State} {k : Fatal}

/-- A step before its boundary consumes nothing of the schedule (log 7). -/
theorem Steps.inputs (h : Steps s t) : t.inputs = s.inputs := by
  cases h with
  | idle => rfl
  | interrupt _ hd =>
    obtain ⟨w, hw, rfl⟩ | ⟨k, w, hw, rfl⟩ := dispatch_cases hd
    · exact (push16_done_sameButSp hw).inputs
    · exact (push16_raise_sameButSp hw).inputs
  | fetchRaises _ => rfl
  | runs _ hx =>
    rw [promoted_eq]
    obtain ⟨w, ha, he⟩ | ⟨k, w, ha, rfl⟩ := exec_cases hx
    · exact (congrArg State.inputs he.frame).trans ha.sameButSp.inputs
    · exact ha.sameButSp.inputs

/-! ### One round -/

/-- A round is fatal before its step or by it, or its tick ends the frame, or the next round
follows. -/
theorem frameRounds_cases (n : Nat) (s : State) :
    (∃ u k, u.fatal = some k ∧ frameRounds (n + 1) s = .fatal k u) ∨
      ∃ u, cpuStep s = .next u ∧ u.fatal = none ∧ frameRounds (n + 1) s =
        if Source.vblank ∈ (u.inputs.headD {}).raised then .frameDone u.tick
        else frameRounds n u.tick := by
  cases hf : s.fatal with
  | some k =>
    refine .inl ⟨s, k, hf, ?_⟩
    rw [frameRounds, cpuStep_of_fatal hf]
  | none =>
    obtain ⟨u, hu, -⟩ := cpuStep_steps hf
    cases huf : u.fatal with
    | some k =>
      refine .inl ⟨u, k, huf, ?_⟩
      rw [frameRounds, hu]
      simp only [huf]
    | none =>
      refine .inr ⟨u, hu, huf, ?_⟩
      rw [frameRounds, hu]
      simp only [huf, List.contains_iff_mem, State.boundary]

/-- A round that goes on is a step of the machine where the host does nothing (60_exceptions R371). -/
theorem step_of_round (h : cpuStep s = .next u) (hu : u.fatal = none)
    (hwake : ∀ x ∈ u.inputs, x.wake = false) : step s = .next u.tick := by
  have hhead : (u.inputs.headD {}).wake = false := by
    cases hi : u.inputs with
    | nil => rfl
    | cons x xs => exact hwake x (hi ▸ List.mem_cons_self)
  rw [step_of_cpuStep h, atBoundary_of_running hu, hhead, Bool.not_false, Bool.and_true,
    ← tick_stopped u]

theorem Reaches.head (h : step s = .next t) (ht : Reaches t u) : Reaches s u := by
  induction ht with
  | refl => exact .tail s s _ (.refl s) h
  | tail v w _ hw ih => exact .tail s v w ih hw

/-! ### The end of a frame -/

/-- `m` is the first boundary of the schedule `xs` that raises frame-complete. -/
def FirstComplete (xs : List Boundary) (m : Nat) : Prop :=
  Source.vblank ∈ ((xs.drop m).headD {}).raised ∧
    ∀ j < m, Source.vblank ∉ ((xs.drop j).headD {}).raised

theorem FirstComplete.succ {xs : List Boundary} (h0 : Source.vblank ∉ (xs.headD {}).raised)
    (h : FirstComplete (xs.drop 1) m) : FirstComplete xs (m + 1) := by
  obtain ⟨hm, hbefore⟩ := h
  rw [List.drop_drop, Nat.add_comm 1 m] at hm
  refine ⟨hm, fun j hj => ?_⟩
  cases j with
  | zero => exact h0
  | succ j =>
    have hj' := hbefore j (Nat.lt_of_succ_lt_succ hj)
    rwa [List.drop_drop, Nat.add_comm 1 j] at hj'

theorem FirstComplete.tail {xs : List Boundary} (h : FirstComplete xs (m + 1)) :
    Source.vblank ∉ (xs.headD {}).raised ∧ FirstComplete (xs.drop 1) m := by
  obtain ⟨hm, hbefore⟩ := h
  refine ⟨hbefore 0 (Nat.succ_pos m), ?_, fun j hj => ?_⟩
  · rwa [List.drop_drop, Nat.add_comm 1 m]
  · rw [List.drop_drop, Nat.add_comm 1 j]
    exact hbefore (j + 1) (Nat.succ_lt_succ hj)

/-- What the end of a frame says of the run of its rounds. -/
structure FrameEnds (n : Nat) (s t : State) : Prop where
  fatal : t.fatal = none
  request : t.intRequest.getLsbD 0 = true
  complete : ∃ m < n, FirstComplete s.inputs m ∧ t.inputs = s.inputs.drop (m + 1)
  reaches : (∀ x ∈ s.inputs, x.wake = false) → Reaches s t

theorem frameEnds_of_frameDone (h : frameRounds n s = .frameDone t) : FrameEnds n s t := by
  induction n generalizing s with
  | zero => cases h
  | succ n ih =>
    obtain ⟨u, k, -, hround⟩ | ⟨u, hu, huf, hround⟩ := frameRounds_cases n s
    · rw [hround] at h; cases h
    · rw [hround] at h
      have hinputs : u.inputs = s.inputs := (cpuStep_cases hu).2.inputs
      have htick := tick_eq_of_running huf
      have htail : u.tick.inputs = s.inputs.drop 1 := by
        rw [htick, List.drop_one, ← hinputs]
      have hstep (hw : ∀ x ∈ s.inputs, x.wake = false) : step s = .next u.tick :=
        step_of_round hu huf (hinputs ▸ hw)
      split at h
      next hmem =>
        cases h
        have hfirst : FirstComplete s.inputs 0 :=
          ⟨hinputs ▸ hmem, fun j hj => absurd hj (Nat.not_lt_zero j)⟩
        refine ⟨?_, ?_, ⟨0, Nat.succ_pos n, hfirst, htail⟩,
          fun hw => .tail s s _ (.refl s) (hstep hw)⟩
        · rw [htick]; exact huf
        · rw [tick_getLsbD huf, Bool.or_eq_true]
          exact .inr (List.any_eq_true.mpr ⟨.vblank, hmem, rfl⟩)
      next hmem =>
        obtain ⟨hfatal, hrequest, ⟨m, hm, hfirst, htin⟩, hreaches⟩ := ih h
        rw [htail] at hfirst htin hreaches
        rw [List.drop_drop, Nat.add_comm] at htin
        refine ⟨hfatal, hrequest, ⟨m + 1, Nat.succ_lt_succ hm, hfirst.succ (hinputs ▸ hmem), htin⟩,
          fun hw => .head (hstep hw) (hreaches fun x hx => hw x (List.mem_of_mem_drop hx))⟩

/-- A frame that ends fatally has the record (60_exceptions R372). -/
theorem fatal_of_frameFatal (h : frameRounds n s = .fatal k t) : t.fatal = some k := by
  induction n generalizing s with
  | zero => cases h
  | succ n ih =>
    obtain ⟨u, k', huk, hround⟩ | ⟨u, -, -, hround⟩ := frameRounds_cases n s
    · rw [hround] at h; cases h; exact huk
    · rw [hround] at h
      split at h
      · cases h
      · exact ih h

/-- The frames of a stopped core complete: its rounds report a cycle and tick
(46_cpu_control R333, 60_exceptions R370). -/
theorem frameRounds_of_stopped (hf : s.fatal = none) (hs : s.stopped = true)
    (hm : FirstComplete s.inputs m) (hn : m < n) :
    ∃ t, frameRounds n s = .frameDone t ∧ t = { s with
      intRequest := t.intRequest, inputs := s.inputs.drop (m + 1), lastCycles := 1 } := by
  induction m generalizing n s with
  | zero =>
    obtain ⟨n, rfl⟩ := Nat.exists_eq_succ_of_ne_zero (Nat.ne_zero_of_lt hn)
    have hidle : s.idle.fatal = none := hf
    have hmem : Source.vblank ∈ (s.idle.inputs.headD {}).raised := hm.1
    refine ⟨s.idle.tick, ?_, ?_⟩
    · rw [frameRounds, cpuStep_of_stopped hf hs]
      simp only [hidle, State.boundary, List.contains_iff_mem.mpr hmem, if_true]
    · rw [List.drop_one]
      exact tick_eq_of_running hidle
  | succ m ih =>
    obtain ⟨n, rfl⟩ := Nat.exists_eq_succ_of_ne_zero (Nat.ne_zero_of_lt hn)
    have hidle : s.idle.fatal = none := hf
    obtain ⟨h0, hrest⟩ := hm.tail
    have h0' : Source.vblank ∉ (s.idle.inputs.headD {}).raised := h0
    have htick := tick_eq_of_running hidle
    have hinputs : s.idle.tick.inputs = s.inputs.drop 1 := by rw [htick, List.drop_one]; rfl
    obtain ⟨t, hround, ht⟩ := ih (s := s.idle.tick) (n := n) (by rw [htick]; exact hf)
      (by rw [htick]; exact hs) (hinputs ▸ hrest) (Nat.lt_of_succ_lt_succ hn)
    refine ⟨t, ?_, ?_⟩
    · rw [frameRounds, cpuStep_of_stopped hf hs]
      simp only [hidle, State.boundary, List.contains_iff_mem, if_neg h0', hround]
    · rw [hinputs, List.drop_drop, Nat.add_comm 1] at ht
      rw [htick] at ht
      exact ht

/-- Settles O55: the tick bit by bit, the boundary, and the rounds of a frame by induction on their
bound. -/
theorem tickAndFrames : Obligations.TickAndFrames := by
  refine ⟨fun s hf => ⟨tick_of_fatal hf, atBoundary_of_fatal hf⟩,
    fun s hf => ⟨?_, tick_getLsbD hf, atBoundary_of_running hf⟩,
    fun s => ⟨rfl, fun hs => ?_⟩, fun n b s t h => ?_, fun n b k s t h => fatal_of_frameFatal h,
    fun n m b s hf hs hn hm hbefore => ?_⟩
  · rw [List.drop_one]
    exact tick_eq_of_running hf
  · rw [State.stopWake, ← hs]
  · obtain ⟨hfatal, hrequest, ⟨m, hm, ⟨hmem, hbefore⟩, hinputs⟩, hreaches⟩ :=
      frameEnds_of_frameDone h
    exact ⟨hfatal, hrequest, ⟨m, hm, hmem, hbefore, hinputs⟩, hreaches⟩
  · exact frameRounds_of_stopped (s := s.logExt (.markButtons b)) hf hs ⟨hm, hbefore⟩ hn

end frames

end Sys2Proof.Machine
end

section
/-! PROOFS. The three intercepted writes (20_memory R61, R78, R100 to R106), and the reads under the
overlay. -/

namespace Sys2Proof.Machine

/-! ### What is handed over -/

/-- The events of the bytes `f 0, …, f (n - 1)` (log 6). -/
theorem handed_map_range (ev : Nat → Byte → ExtEvent) (f : Nat → Byte) (n : Nat) :
    handed ev ((List.range n).map f) = ((List.range n).map fun i => ev i (f i)).reverse := by
  have hzip : ((List.range n).map f).zipIdx = (List.range n).map fun i => (f i, i) :=
    List.ext_getElem (by simp) (by simp)
  rw [handed, hzip, List.map_map]
  rfl

/-- A slice whose bytes the core holds is read without a side effect (20_memory R64, R68). -/
theorem busSlice_of_peek {s : State} {src : Word} {f : Nat → Byte} {n : Nat}
    (h : ∀ i < n, s.peek (src + BitVec.ofNat 16 i) = some (f i)) :
    busSlice src n s = .done ((List.range n).map f) s := by
  induction n generalizing src f with
  | zero => rfl
  | succ n ih =>
    have hfirst : busRead src s = .done (f 0) s := by
      have h0 := h 0 (Nat.succ_pos n)
      rw [BitVec.add_zero] at h0
      exact busRead_of_peek h0
    have hrest : busSlice (src + 1#16) n s = .done ((List.range n).map fun i => f (i + 1)) s := by
      refine ih fun i hi => ?_
      have hnext : src + 1#16 + BitVec.ofNat 16 i = src + BitVec.ofNat 16 (i + 1) := by
        rw [BitVec.add_assoc, ← BitVec.ofNat_add, Nat.add_comm 1 i]
      rw [hnext]
      exact h (i + 1) (Nat.succ_lt_succ hi)
    rw [busSlice, hfirst, Eff.bind_done, hrest, Eff.bind_done, List.range_succ_eq_map, List.map_cons,
      List.map_map]
    rfl

section writes
variable {s u w : State} {b : Byte} {src : Word} {vs : List Byte} {i n : Nat} {k : Fatal}
  {ev : Nat → Byte → ExtEvent}

/-- A copy that completes (20_memory R100). -/
theorem dmaCopy_handed (h : busSlice src n s = .done vs u) :
    dmaCopy src ev n 0 s = .done () { u with extLog := handed ev vs ++ s.extLog } := by
  have hsrc : src + BitVec.ofNat 16 0 = src := by rw [BitVec.add_zero]
  exact dmaCopy_of_slice src ev n 0 s u s.extLog vs (hsrc.symm ▸ h)

/-- A copy that a fatal read ends part-way (20_memory R101). -/
theorem dmaCopy_handed_raise (hi : i < n) (h : busSlice src i s = .done vs u)
    (hk : busRead (src + BitVec.ofNat 16 i) u = .raise k w) :
    dmaCopy src ev n 0 s = .raise k { w with extLog := handed ev vs ++ s.extLog } := by
  have hsrc : src + BitVec.ofNat 16 0 = src := by rw [BitVec.add_zero]
  rw [← Nat.zero_add i] at hk
  exact dmaCopy_of_raise src ev n i 0 s u w s.extLog vs k (hsrc.symm ▸ h) hi hk

/-! ### Sprite DMA -/

theorem busWrite_spriteDma (s : State) (b : Byte) :
    busWrite 0xFF46#16 b s = dmaCopy (BitVec.ofNat 16 (b.toNat * 256)) .spriteTable 160 0 s := by
  have hi : intercept s.params.revision 0xFF46#16 = some .spriteDma := if_pos rfl
  have hsrc : join b 0x00#8 = BitVec.ofNat 16 (b.toNat * 256) := by
    have hlt := b.isLt
    refine BitVec.eq_of_toNat_eq ?_
    rw [join_toNat, BitVec.toNat_ofNat, BitVec.toNat_ofNat]
    omega
  rw [busWrite, hi, ← hsrc]
  rfl

/-! ### The VRAM block transfer -/

theorem busWrite_blockTransfer (s : State) (b : Byte) (hr : s.params.revision = .cgb) :
    busWrite 0xFF55#16 b s = vramBlockTransfer b s := by
  have hi : intercept s.params.revision 0xFF55#16 = some .blockTransfer := by rw [hr]; rfl
  rw [busWrite, hi]

/-- Bit 7 set: the length is passed on (20_memory R104, R106). -/
theorem vramBlockTransfer_background (s : State) (h : 128 ≤ b.toNat) :
    vramBlockTransfer b s = .done () (s.logExt (.scheduleBlockTransfer (blockLength b))) := by
  rw [vramBlockTransfer, getLsbD_seven_eq_decide, if_pos (decide_eq_true h)]

/-- Bit 7 clear: the copy is made at once (20_memory R104, R105). -/
theorem vramBlockTransfer_sync (s : State) (h : b.toNat < 128) :
    vramBlockTransfer b s = syncBlockTransfer (blockLength b) s := by
  have hnot : ¬decide (b.toNat ≥ 128) = true := by
    rw [decide_eq_true_iff]
    exact Nat.not_le.mpr h
  rw [vramBlockTransfer, getLsbD_seven_eq_decide, if_neg hnot]

theorem syncBlockTransfer_handed
    (h : busSlice (Config.extBlockSource s.extReads) n { s with extReads := s.extReads + 1 } =
      .done vs u) :
    syncBlockTransfer n s =
      .done () { u with extLog := .blockAdvance n :: (handed .blockWrite vs ++ s.extLog) } := by
  rw [syncBlockTransfer, dmaCopy_handed h]
  rfl

theorem syncBlockTransfer_raise (hi : i < n)
    (h : busSlice (Config.extBlockSource s.extReads) i { s with extReads := s.extReads + 1 } =
      .done vs u)
    (hk : busRead (Config.extBlockSource s.extReads + BitVec.ofNat 16 i) u = .raise k w) :
    syncBlockTransfer n s = .raise k { w with extLog := handed .blockWrite vs ++ s.extLog } := by
  rw [syncBlockTransfer, dmaCopy_handed_raise hi h hk]
  rfl

/-! ### The boot overlay -/

theorem busWrite_bootDisable (s : State) (b : Byte) : busWrite 0xFF50#16 b s =
    .done () (if b.toNat % 2 = 1 then { s with bootOverlay := false } else s) := by
  have hi : intercept s.params.revision 0xFF50#16 = some .bootDisable := by
    cases s.params.revision <;> rfl
  rw [busWrite, hi]
  simp only [bootDisable, getLsbD_zero_eq_decide, decide_eq_true_iff]

theorem inOverlay_iff (rev : Revision) (a : Word) : inOverlay rev a = true ↔
    a.toNat ≤ 0x00FF ∨ (rev = .cgb ∧ 0x0200 ≤ a.toNat ∧ a.toNat ≤ 0x08FF) := by
  cases rev <;> simp [inOverlay]

/-- Under the overlay the boot image answers, and a write does nothing (20_memory R78). -/
theorem route_of_overlay {a : Word} (hon : s.bootOverlay = true) (hslot : .bootRom ∈ s.slots)
    (ha : inOverlay s.params.revision a = true) : s.route a = .ok .bootRom :=
  route_of_getId (if_pos (by rw [hon, ha]; rfl)) hslot

/-- Settles O57: the copies through `get_slice`, the overlay latch, and the routing under and outside
the overlay. -/
theorem interceptedWrites : Obligations.InterceptedWrites := by
  refine ⟨fun s u w b vs i k => ⟨fun h => ?_, fun hi h hk => ?_⟩, fun s b f h => ?_,
    fun s u w b vs i len src k hr hlen hsrc => ?_, fun s b d hr hd => ?_, busWrite_bootDisable,
    fun s a b img hon hslot himg ha => ?_, fun s a ha => ?_⟩
  · rw [busWrite_spriteDma, dmaCopy_handed h]
  · rw [BitVec.ofNat_add] at hk
    rw [busWrite_spriteDma, dmaCopy_handed_raise hi h hk]
  · have hslice := busSlice_of_peek (s := s) (src := BitVec.ofNat 16 (b.toNat * 256)) (n := 160)
      fun i hi => (BitVec.ofNat_add (b.toNat * 256) i ▸ h i hi)
    rw [busWrite_spriteDma, dmaCopy_handed hslice, handed_map_range]
  · subst hlen hsrc
    rw [busWrite_blockTransfer s b hr]
    refine ⟨fun hb => ?_, fun hb h => ?_, fun hb hi h hk => ?_⟩
    · rw [vramBlockTransfer_background s hb]
      rfl
    · rw [vramBlockTransfer_sync s hb]
      exact syncBlockTransfer_handed h
    · rw [vramBlockTransfer_sync s hb]
      exact syncBlockTransfer_raise hi h hk
  · have hi : intercept s.params.revision 0xFF55#16 = none := by rw [hr]; rfl
    exact busWrite_of_route b hi hd
  · have hroute := route_of_overlay hon hslot ((inOverlay_iff _ _).mpr ha)
    have hi : intercept s.params.revision a = none := intercept_romArea _ (by omega)
    refine ⟨busWrite_of_route b hi hroute, ?_⟩
    rw [busRead_of_route hroute, deviceGet8, bootByte, himg]
  · refine if_neg fun hc => ?_
    obtain ⟨hon, hin⟩ := Bool.and_eq_true_iff.mp hc
    obtain hlow | ⟨hrev, hlo, hhi⟩ := (inOverlay_iff _ _).mp hin
    · obtain hoff | ⟨-, hge⟩ | hge | ⟨hge, -⟩ := ha
      · exact Bool.false_ne_true (hoff.symm.trans hon)
      all_goals omega
    · obtain hoff | ⟨hdmg, -⟩ | hge | ⟨-, hlt⟩ := ha
      · exact Bool.false_ne_true (hoff.symm.trans hon)
      · cases hdmg.symm.trans hrev
      all_goals omega

end writes

end Sys2Proof.Machine
end

section
/-! PROOFS. The cartridge RAM window (20_memory R116, R118, R123, R126, R128, R129; log 14). -/

namespace Sys2Proof.Machine

section window
variable {s : State} {a : Word} {c : Cart} {p : Params}

/-! ### The window on the bus -/

theorem inRomArea_of_window (hlo : 0xA000 ≤ a.toNat) : inRomArea a = false :=
  decide_eq_false (by omega)

theorem inRamWindow_of_window (hlo : 0xA000 ≤ a.toNat) (hhi : a.toNat ≤ 0xBFFF) :
    inRamWindow a = true := by
  rw [inRamWindow, decide_eq_true hlo, decide_eq_true hhi]
  rfl

/-- The intercepted writes lie above the window (20_memory R61). -/
theorem intercept_window (rev : Revision) (hhi : a.toNat ≤ 0xBFFF) : intercept rev a = none := by
  have hne {b : Word} (hb : 0xBFFF < b.toNat) : a ≠ b := fun e => by subst e; omega
  rw [intercept, if_neg (hne (by decide)), if_neg fun hc => hne (by decide) hc.1,
    if_neg (hne (by decide))]

theorem Cart.get8_window (hlo : 0xA000 ≤ a.toNat) (hhi : a.toNat ≤ 0xBFFF) :
    c.get8 p a = some (c.ramRead p a) := by
  rw [Cart.get8, inRomArea_of_window hlo, inRamWindow_of_window hlo hhi]
  rfl

theorem Cart.set8_window (v : Byte) (hlo : 0xA000 ≤ a.toNat) (hhi : a.toNat ≤ 0xBFFF) :
    c.set8 p a v = some (c.ramWrite p a v) := by
  rw [Cart.set8, inRomArea_of_window hlo, inRamWindow_of_window hlo hhi]
  rfl

theorem busRead_window (hr : s.route a = .ok .cartridge) (hlo : 0xA000 ≤ a.toNat)
    (hhi : a.toNat ≤ 0xBFFF) : busRead a s = .done (s.cart.ramRead s.params a) s := by
  rw [busRead_of_route hr, deviceGet8, Cart.get8_window hlo hhi]

theorem busWrite_window (v : Byte) (hr : s.route a = .ok .cartridge) (hlo : 0xA000 ≤ a.toNat)
    (hhi : a.toNat ≤ 0xBFFF) :
    busWrite a v s = .done () { s with cart := s.cart.ramWrite s.params a v } := by
  rw [busWrite_of_route v (intercept_window _ hhi) hr, deviceSet8, Cart.set8_window v hlo hhi]

/-! ### The window of a cartridge -/

theorem Mbc.clockSelected_iff (m : Mbc) : m.clockSelected = true ↔
    ∃ en bank sel, m = .familyB en bank sel ∧ 3 < sel.toNat := by
  cases m <;> simp [Mbc.clockSelected]

theorem Mbc.latchOff_iff (m : Mbc) : m.latchOff = true ↔ m.latch = some false := by
  cases m <;> simp [Mbc.latchOff, Mbc.latch]

theorem Mbc.isMbc2_iff (m : Mbc) : m.isMbc2 = true ↔ m.variant = .mbc2 := by
  cases m <;> simp [Mbc.isMbc2, Mbc.variant]

/-- No cell answers: the value read, and the write dropped. -/
structure Cart.Drops (p : Params) (c : Cart) (a : Word) (v : Byte) : Prop where
  read : c.ramRead p a = v
  write : ∀ w, c.ramWrite p a w = c

theorem Cart.drops_clock (h : c.mbc.clockSelected = true) : c.Drops p a 0x00#8 :=
  ⟨if_pos h, fun _ => if_pos h⟩

theorem Cart.drops_noRam (h : c.mbc.clockSelected = false) (hl : c.ramLen = 0) :
    c.Drops p a p.nullRead where
  read := by rw [Cart.ramRead, h, if_neg Bool.false_ne_true, if_pos hl]
  write w := by rw [Cart.ramWrite, h, if_neg Bool.false_ne_true, if_pos hl]

theorem Cart.drops_gated (h : c.mbc.clockSelected = false) (hl : c.ramLen ≠ 0)
    (hg : (p.ramGating && c.mbc.latchOff) = true) : c.Drops p a 0xFF#8 where
  read := by rw [Cart.ramRead, h, if_neg Bool.false_ne_true, if_neg hl, if_pos hg]
  write w := by rw [Cart.ramWrite, h, if_neg Bool.false_ne_true, if_neg hl, if_pos hg]

/-- The cell behind the address answers: RAM is there and nothing stands before it. -/
structure Cart.Open (p : Params) (c : Cart) : Prop where
  clock : c.mbc.clockSelected = false
  ram : c.ramLen ≠ 0
  gate : (p.ramGating && c.mbc.latchOff) = false

theorem Cart.Open.read (h : c.Open p) : c.ramRead p a =
    if c.mbc.isMbc2 then 0xF0#8 ||| (c.ram.read (c.ramIndex a) &&& 0x0F#8)
    else c.ram.read (c.ramIndex a) := by
  rw [Cart.ramRead, h.clock, h.gate, if_neg Bool.false_ne_true, if_neg h.ram,
    if_neg Bool.false_ne_true]

theorem Cart.Open.write (h : c.Open p) (v : Byte) : c.ramWrite p a v =
    { c with ram := c.ram.write (c.ramIndex a) (if c.mbc.isMbc2 then v &&& 0x0F#8 else v) } := by
  rw [Cart.ramWrite, h.clock, h.gate, if_neg Bool.false_ne_true, if_neg h.ram,
    if_neg Bool.false_ne_true]
  split <;> rfl

theorem State.storesRam (v : Byte) (hinv : s.inv = true) (hr : s.route a = .ok .cartridge)
    (hlo : 0xA000 ≤ a.toNat) (hhi : a.toNat ≤ 0xBFFF) (hopen : s.cart.Open s.params) :
    s.StoresRam a v (s.cart.ramIndex a) (if s.cart.mbc.isMbc2 then v &&& 0x0F#8 else v) := by
  obtain ⟨hcart, -⟩ := s.inv_iff.mp hinv
  have hwf : s.cart.ram.wf = true := by
    simp only [Cart.inv, Bool.and_eq_true] at hcart
    exact hcart.1.1.2
  exact ⟨_, by rw [busWrite_window v hr hlo hhi, hopen.write], fun j => Memory.read_write _ j _ hwf⟩

/-! ### The bank registers and the RAM window -/

/-- `m` has the RAM bank `k` selected, its latch on, and no clock register (20_memory R117, R121,
R125). -/
structure Mbc.Selects (m : Mbc) (k : Nat) : Prop where
  clock : m.clockSelected = false
  latch : m.latchOff = false
  notMbc2 : m.isMbc2 = false
  bank : m.ramBank = k

/-- The families with RAM banks: A, B with a RAM bank selected, C. -/
def Mbc.Banked (m : Mbc) : Prop :=
  m.variant = .familyA ∨ (∃ en rom sel, m = .familyB en rom sel ∧ sel.toNat ≤ 3) ∨
    m.variant = .familyC

/-- Writing 0x0A at 0x0000 enables the RAM (20_memory R118, R120, R124). -/
theorem Mbc.selects_enable {m : Mbc} (h : m.Banked) :
    (m.control 0x0000#16 0x0A#8).Selects m.ramBank := by
  obtain hA | ⟨en, rom, sel, rfl, hsel⟩ | hC := h
  · cases m with
    | familyA en lo hi mode => exact ⟨rfl, rfl, rfl, rfl⟩
    | _ => cases hA
  · exact ⟨decide_eq_false (Nat.not_lt.mpr hsel), rfl, rfl, rfl⟩
  · cases m with
    | familyC en lo hi ram => exact ⟨rfl, rfl, rfl, rfl⟩
    | _ => cases hC

/-- A write of the ROM bank register leaves the RAM bank, the latch and the clock (20_memory R118,
R120, R124). -/
theorem Mbc.Selects.control {m : Mbc} {k : Nat} (h : m.Selects k) (v : Byte)
    (hlo : 0x2000 ≤ a.toNat) (hhi : a.toNat ≤ 0x3FFF) : (m.control a v).Selects k := by
  have hfirst : ¬a.toNat ≤ 0x1FFF := by omega
  cases m with
  | fixed => exact h
  | familyA en lo hi mode | familyB en bank sel =>
    rw [Mbc.control, if_neg hfirst, if_pos hhi]
    exact ⟨h.clock, h.latch, h.notMbc2, h.bank⟩
  | familyC en lo hi ram =>
    rw [Mbc.control, if_neg hfirst, if_pos hhi]
    split <;> exact ⟨h.clock, h.latch, h.notMbc2, h.bank⟩
  | mbc2 en bank => exact absurd h.notMbc2.symm Bool.false_ne_true

/-- A cartridge whose controller selects a RAM bank answers with its cell. -/
theorem Mbc.Selects.isOpen {k : Nat} (h : c.mbc.Selects k) (hl : 0 < c.ramLen) : c.Open p :=
  ⟨h.clock, Nat.ne_of_gt hl, by rw [h.latch, Bool.and_false]⟩

theorem Mbc.Selects.ramIndex {k : Nat} (h : c.mbc.Selects k) :
    c.ramIndex a = (k * 0x2000 + (a.toNat - 0xA000)) % c.ramLen := by
  rw [Cart.ramIndex, h.notMbc2, h.bank, if_neg Bool.false_ne_true]

theorem Cart.set8_romArea (v : Byte) (h : a.toNat ≤ 0x7FFF) :
    c.set8 p a v = some { c with mbc := c.mbc.control a v } := if_pos (decide_eq_true h)

/-- A byte stored in the selected bank reads back. -/
theorem Cart.stores_selected {k : Nat} (v : Byte) (h : c.mbc.Selects k) (hl : 0 < c.ramLen)
    (hwf : c.ram.wf = true) (hlo : 0xA000 ≤ a.toNat) (hhi : a.toNat ≤ 0xBFFF) :
    ∃ d, c.set8 p a v = some d ∧ d.mbc = c.mbc ∧ d.ramLen = c.ramLen ∧ d.rom = c.rom ∧
      d.get8 p a = some v := by
  have hstored : c.ramWrite p a v = { c with ram := c.ram.write (c.ramIndex a) v } := by
    rw [(h.isOpen hl).write, h.notMbc2, if_neg Bool.false_ne_true]
  refine ⟨_, Cart.set8_window v hlo hhi, ?_⟩
  rw [hstored]
  refine ⟨rfl, rfl, rfl, ?_⟩
  have hselects : Mbc.Selects { c with ram := c.ram.write (c.ramIndex a) v }.mbc k := h
  rw [Cart.get8_window hlo hhi, (hselects.isOpen hl).read, hselects.notMbc2,
    if_neg Bool.false_ne_true]
  exact congrArg some (Memory.read_write_same _ v hwf)

/-- A write of the ROM bank register leaves the byte of the selected bank. -/
theorem Cart.control_keeps_selected {k : Nat} {bank : Word} (v : Byte) (h : c.mbc.Selects k)
    (hl : 0 < c.ramLen) (hblo : 0x2000 ≤ bank.toNat) (hbhi : bank.toNat ≤ 0x3FFF)
    (hlo : 0xA000 ≤ a.toNat) (hhi : a.toNat ≤ 0xBFFF) :
    ∃ d, c.set8 p bank v = some d ∧ d.mbc.Selects k ∧ d.ramLen = c.ramLen ∧ d.rom = c.rom ∧
      d.get8 p a = c.get8 p a := by
  have hselects : Mbc.Selects { c with mbc := c.mbc.control bank v }.mbc k := h.control v hblo hbhi
  refine ⟨_, Cart.set8_romArea v (by omega), hselects, rfl, rfl, ?_⟩
  rw [Cart.get8_window hlo hhi, Cart.get8_window hlo hhi, (hselects.isOpen hl).read,
    (h.isOpen hl).read, hselects.ramIndex, h.ramIndex, hselects.notMbc2, h.notMbc2]

/-- Settles O60: the five cases of the window exclude each other; a byte survives the control writes
that leave its cell selected. -/
theorem cartridgeRamWindow : Obligations.CartridgeRamWindow := by
  refine ⟨fun s a v clock gated hinv hr hlo hhi hclock hgated => ?_,
    fun p c v x y bank window hwf hbanked hlen hblo hbhi hwlo hwhi => ?_⟩
  · rw [← Mbc.clockSelected_iff] at hclock
    rw [← Mbc.latchOff_iff, ← Bool.and_eq_true_iff] at hgated
    have hdrops {w : Byte} (h : s.cart.Drops s.params a w) :
        busRead a s = .done w s ∧ busWrite a v s = .done () s := by
      rw [busRead_window hr hlo hhi, busWrite_window v hr hlo hhi, h.read, h.write]
      exact ⟨rfl, rfl⟩
    have hnoClock (h : ¬clock) : s.cart.mbc.clockSelected = false :=
      Bool.eq_false_iff.mpr (hclock.not.mp h)
    have hopen (h : ¬clock) (hl : s.cart.ramLen ≠ 0) (hg : ¬gated) : s.cart.Open s.params :=
      ⟨hnoClock h, hl, Bool.eq_false_iff.mpr (hgated.not.mp hg)⟩
    refine ⟨fun h => hdrops (Cart.drops_clock (hclock.mp h)),
      fun h hl => hdrops (Cart.drops_noRam (hnoClock h) hl),
      fun h hl hg => hdrops (Cart.drops_gated (hnoClock h) hl (hgated.mp hg)),
      fun h hl hg hm k hk => ?_, fun h hl hg hm k hk => ?_⟩
    · have hmbc2 : s.cart.mbc.isMbc2 = true := s.cart.mbc.isMbc2_iff.mpr hm
      have hindex : s.cart.ramIndex a = k := by rw [hk, Cart.ramIndex, if_pos hmbc2]
      have hstores := s.storesRam v hinv hr hlo hhi (hopen h hl hg)
      rw [busRead_window hr hlo hhi, (hopen h hl hg).read, if_pos hmbc2, hindex]
      rw [if_pos hmbc2, hindex] at hstores
      exact ⟨rfl, hstores⟩
    · have hmbc2 : ¬s.cart.mbc.isMbc2 = true := s.cart.mbc.isMbc2_iff.not.mpr hm
      have hindex : s.cart.ramIndex a = k := by rw [hk, Cart.ramIndex, if_neg hmbc2]
      have hstores := s.storesRam v hinv hr hlo hhi (hopen h hl hg)
      rw [busRead_window hr hlo hhi, (hopen h hl hg).read, if_neg hmbc2, hindex]
      rw [if_neg hmbc2, hindex] at hstores
      exact ⟨rfl, hstores⟩
  · have henable : Mbc.Selects { c with mbc := c.mbc.control 0x0000#16 0x0A#8 }.mbc c.mbc.ramBank :=
      Mbc.selects_enable hbanked
    obtain ⟨c2, hset2, hmbc2, hlen2, hrom2, hread2⟩ :=
      Cart.stores_selected (p := p) v henable hlen hwf hwlo hwhi
    obtain ⟨c3, hset3, hmbc3, hlen3, hrom3, hread3⟩ :=
      Cart.control_keeps_selected (p := p) x (hmbc2 ▸ henable) (hlen2 ▸ hlen) hblo hbhi hwlo hwhi
    obtain ⟨c4, hset4, -, -, hrom4, hread4⟩ :=
      Cart.control_keeps_selected (p := p) y hmbc3 (hlen3 ▸ hlen2 ▸ hlen) hblo hbhi hwlo hwhi
    exact ⟨_, c2, c3, c4, Cart.set8_romArea _ (by decide), hset2, hset3, hset4,
      hread4.trans (hread3.trans hread2), hrom4.trans (hrom3.trans hrom2)⟩

end window

end Sys2Proof.Machine
end

section
/-! PROOFS. A push, then a pop, in RAM (41_load16 R210, R215, R216). -/

namespace Sys2Proof.Machine

section stack
variable {s t u : State} {a x : Word} {v : Byte}

theorem wramIndex_some {i : Nat} (h : wramIndex a = some i) :
    i < 0x2000 ∧ (a.toNat = 0xC000 + i ∨ a.toNat = 0xE000 + i) := by
  refine ⟨wramIndex_lt h, ?_⟩
  unfold wramIndex at h
  split at h
  · have hi := Option.some.inj h
    omega
  · split at h
    · have hi := Option.some.inj h
      omega
    · cases h

theorem hramIndex_some {i : Nat} (h : hramIndex a = some i) : a.toNat = 0xFF80 + i := by
  unfold hramIndex at h
  split at h
  · have hi := Option.some.inj h
    omega
  · cases h

/-- Adjacent addresses reach different cells (20_memory R77). -/
theorem sameRamCell_adjacent (a : Word) : sameRamCell a (a + 1#16) = false := by
  by_contra hc
  simp only [sameRamCell, Bool.not_eq_false, Bool.or_eq_true, Bool.and_eq_true, beq_iff_eq,
    Option.isSome_iff_exists] at hc
  obtain ⟨⟨i, hi⟩, hsame⟩ | ⟨⟨i, hi⟩, hsame⟩ := hc
  · obtain ⟨hlt, ha⟩ := wramIndex_some hi
    obtain ⟨-, hnext⟩ := wramIndex_some (hsame.symm.trans hi)
    bv_omega
  · have ha := hramIndex_some hi
    have hnext := hramIndex_some (hsame.symm.trans hi)
    bv_omega

/-- A write in the RAM banks leaves the RAM banks where they are. -/
theorem State.inRam.of_busWrite (hx : s.inRam x) (ha : deviceOwns .ramBanks a = true)
    (h : busWrite a v s = .done () u) : u.inRam x := by
  have hcore := busWrite_done h
  have hne : a ≠ 0xFF50#16 := fun e => by rw [e] at ha; exact absurd ha (by decide)
  have hoverlay := (busWrite_banking a v s).1 hne
  rw [h] at hoverlay
  exact ⟨(route_congr ⟨hcore.map, hcore.slots, hcore.params, hoverlay⟩ x).trans hx.1, hx.2⟩

theorem sameRamCell_self (ha : deviceOwns .ramBanks a = true) : sameRamCell a a = true := by
  simpa only [deviceOwns, sameRamCell, beq_self_eq_true, Bool.and_true] using ha

/-- A store in the RAM banks touches its own cell alone. -/
theorem touches_inRam (ha : s.inRam a) : s.touches a x = sameRamCell a x := by
  rw [State.touches, intercept_ramBanks _ ha.2, ha.1]

/-- A push in RAM: the two bytes, little-endian (41_load16 R210). -/
theorem pushes_inRam (v : Word) (hinv : s.inv = true) (hhi : s.inRam (s.regs.sp - 1#16))
    (hlo : s.inRam (s.regs.sp - 2#16)) :
    ∃ w, Pushes v s w ∧ w.peek (s.regs.sp - 2#16) = some (loByte v) ∧
      w.peek (s.regs.sp - 2#16 + 1#16) = some (hiByte v) := by
  have habove : s.regs.sp - 2#16 + 1#16 = s.regs.sp - 1#16 := by bv_omega
  have hinv1 : (s.setSp (s.regs.sp - 1#16)).inv = true := (s.inv_setSp _).trans hinv
  obtain ⟨u, hfirst, hread1⟩ := busWrite_inRam (hiByte v) hinv1 hhi hhi (sameRamCell_self hhi.2)
  have hinv2 : (u.setSp (s.regs.sp - 2#16)).inv = true := by
    have hu := busWrite_inv (s.regs.sp - 1#16) (hiByte v) hinv1
    rw [hfirst] at hu
    exact (u.inv_setSp _).trans hu
  have hlo2 : (u.setSp (s.regs.sp - 2#16)).inRam (s.regs.sp - 2#16) :=
    State.inRam.of_busWrite (s := s.setSp (s.regs.sp - 1#16)) (u := u) hlo hhi.2 hfirst
  obtain ⟨w, hsecond, hread2⟩ := busWrite_inRam (loByte v) hinv2 hlo2 hlo2 (sameRamCell_self hlo.2)
  have huntouched : (u.setSp (s.regs.sp - 2#16)).touches (s.regs.sp - 2#16)
      (s.regs.sp - 2#16 + 1#16) = false := (touches_inRam hlo2).trans (sameRamCell_adjacent _)
  have hkept := busWrite_peek (loByte v) huntouched
  rw [hsecond, Eff.state_done, habove] at hkept
  refine ⟨w, ⟨u, hfirst, hsecond⟩, hread2, ?_⟩
  rw [habove, hkept]
  exact hread1

/-- A pop of two bytes the core holds (41_load16 R210). -/
theorem pops_of_peek {lo hi : Byte} (hlo : s.peek s.regs.sp = some lo)
    (hhi : s.peek (s.regs.sp + 1#16) = some hi) : Pops s (join hi lo) s :=
  ⟨hi, lo, s, busRead_of_peek hhi, busRead_of_peek hlo, rfl⟩

/-- The stack register just written, `AF` without its low nibble (10_state R24). -/
theorem State.getStackReg_setStackReg (s : State) (qq : StackReg) (v : Word) :
    (s.setStackReg qq v).getStackReg qq = if qq = .af then v &&& 0xFFF0#16 else v := by
  cases qq with
  | af => exact s.getStackReg_setStackReg_af v
  | bc => exact join_hiByte_loByte v
  | de => exact join_hiByte_loByte v
  | hl => exact join_hiByte_loByte v

theorem State.getStackReg_congr {s t : State} {p : Word} (h : t.regs = { s.regs with pc := p })
    (qq : StackReg) : t.getStackReg qq = s.getStackReg qq := by
  cases qq <;> simp only [State.getStackReg, State.bc, State.de, State.hl, State.af, h]

/-- Settles O15: the push stores the two bytes, the pop reads them. -/
theorem pushThenPopRestores : Obligations.PushThenPopRestores := by
  intro s qq qq' hinv hhi hlo
  obtain ⟨w, hpush, hreadLo, hreadHi⟩ := pushes_inRam (s.getStackReg qq) hinv hhi hlo
  have hexec := wordStoreForms.2.2.2 qq s w hpush
  have hpops := pops_of_peek
    (s := w.ends { s.regs with sp := s.regs.sp - 2#16 } (s.next 1) 4) hreadLo hreadHi
  rw [join_hiByte_loByte] at hpops
  refine ⟨_, _, hexec, hreadLo, hreadHi, by rw [exec_pop, pop_of_pops qq' hpops], ?_, ?_⟩
  · have hsp : s.regs.sp - 2#16 + 2#16 = s.regs.sp := by bv_omega
    cases qq' <;> exact hsp
  · exact (State.getStackReg_congr rfl qq').trans (State.getStackReg_setStackReg _ qq' _)

end stack

end Sys2Proof.Machine
end

section
/-! PROOFS. Decimal arithmetic (42_alu8 R243): the adjustment of the binary sum or difference of two
packed BCD numbers, digit by digit. -/

namespace Sys2Proof.Machine

/-- Packed BCD: the tens in the high nibble, the units in the low one. -/
def bcd (k : Nat) : Byte := BitVec.ofNat 8 (k / 10 * 16 + k % 10)

theorem bcd_toNat {k : Nat} (h : k < 100) : (bcd k).toNat = k / 10 * 16 + k % 10 := by
  rw [bcd, BitVec.toNat_ofNat]
  omega

section digits
variable {a v : Byte} {x y k : Nat} {ci : Bool}

/-- `DAA` makes of the result `z` the byte `r` and the carry `c`. -/
def AluResult.AdjustsTo (z : AluResult) (r : Byte) (c : Bool) : Prop :=
  (daa8 z.r z.n z.h z.c).r = r ∧ (daa8 z.r z.n z.h z.c).c = c

/-- The sum of two packed BCD numbers, adjusted (42_alu8 R243). -/
theorem add8_adjusts (hx : x < 100) (hy : y < 100) (hk : k = ci.toNat) (ha : a = bcd x)
    (hv : v = bcd y) :
    (add8 a v ci).AdjustsTo (bcd ((x + y + k) % 100)) (decide (x + y + k > 99)) := by
  have hci : k ≤ 1 := hk ▸ ci.toNat_le
  rw [AluResult.AdjustsTo, add8_eq _ _ hk, ha, hv, bcd_toNat hx, bcd_toNat hy]
  have hcarry : decide (x + y + k > 99) = true ↔
      decide (x / 10 * 16 + x % 10 + (y / 10 * 16 + y % 10) + k > 255) = true ∨
        (byte (x / 10 * 16 + x % 10 + (y / 10 * 16 + y % 10) + k)).toNat > 0x99 := by
    simp only [decide_eq_true_iff, BitVec.toNat_ofNat]
    obtain hsum | hsum := Nat.lt_or_ge (x / 10 * 16 + x % 10 + (y / 10 * 16 + y % 10) + k) 256
    · rw [Nat.mod_eq_of_lt hsum]
      omega
    · omega
  rw [daa8_of_add hcarry rfl]
  refine ⟨?_, rfl⟩
  simp only [decide_eq_true_iff, BitVec.toNat_ofNat, bcd]
  refine BitVec.eq_of_toNat_eq ?_
  rw [BitVec.toNat_ofNat, BitVec.toNat_ofNat]
  split <;> split <;> omega

/-- The difference of two packed BCD numbers, adjusted (42_alu8 R243). -/
theorem sub8_adjusts (hx : x < 100) (hy : y < 100) (hk : k = ci.toNat) (ha : a = bcd x)
    (hv : v = bcd y) :
    (sub8 a v ci).AdjustsTo (bcd ((x + 200 - y - k) % 100)) (decide (x < y + k)) := by
  have hci : k ≤ 1 := hk ▸ ci.toNat_le
  rw [AluResult.AdjustsTo, sub8_eq _ _ hk, ha, hv, bcd_toNat hx, bcd_toNat hy]
  have hborrow : decide (x / 10 * 16 + x % 10 < y / 10 * 16 + y % 10 + k) = decide (x < y + k) := by
    rw [decide_eq_decide]
    omega
  have hadjust : (x + 200 - y - k) % 100 / 10 * 16 + (x + 200 - y - k) % 100 % 10 + 256 +
      (if decide (x < y + k) = true then 0x60 else 0) +
      (if decide ((x / 10 * 16 + x % 10) % 16 < (y / 10 * 16 + y % 10) % 16 + k) = true
        then 6 else 0) =
      (byte (x / 10 * 16 + x % 10 + 512 - (y / 10 * 16 + y % 10) - k)).toNat + 256 := by
    simp only [decide_eq_true_iff, BitVec.toNat_ofNat]
    split <;> split <;> omega
  simp only [hborrow]
  rw [daa8_of_sub hadjust]
  refine ⟨BitVec.eq_of_toNat_eq ?_, rfl⟩
  rw [bcd, BitVec.toNat_ofNat, BitVec.toNat_ofNat, Nat.add_mod_right]

end digits

/-- What `DAA` after an accumulator operation that keeps its result leaves in `A` and in `C`. -/
theorem exec_alu_daa {s : State} {op : AluOp} {r : Reg8} {z : AluResult} {m : Byte} {c : Bool}
    (h : s.alu op (s.getReg r) = s.setAlu z) (hz : z.AdjustsTo m c) :
    ∃ t u, exec (.alu op (.reg r)) s = .next t ∧ exec .daa t = .next u ∧
      u.regs.a = m ∧ u.flagC = c := by
  obtain ⟨hm, hc⟩ := hz
  have halu : exec (.alu op (.reg r)) s = .next ((s.setAlu z).finish 1 1) := by
    rw [exec_alu, ← h]
    rfl
  have hdaa : daa8 (s.setAlu z).regs.a (s.setAlu z).flagN (s.setAlu z).flagH (s.setAlu z).flagC =
      daa8 z.r z.n z.h z.c := by
    rw [State.setAlu, State.setFlags_flagN, State.setFlags_flagH, State.setFlags_flagC]
    rfl
  have hexec : exec .daa ((s.setAlu z).finish 1 1) =
      .next ((((s.setAlu z).finish 1 1).setAlu (daa8 z.r z.n z.h z.c)).finish 1 1) := by
    rw [exec_daa, execDaa, ← hdaa]
    rfl
  refine ⟨_, _, halu, hexec, hm, Eq.trans ?_ hc⟩
  exact State.setFlags_flagC (((s.setAlu z).finish 1 1).setReg .a (daa8 z.r z.n z.h z.c).r) _ _ _ _

/-- Settles O21: the operations by their results; the adjustment digit by digit. -/
theorem decimalArithmetic : Obligations.DecimalArithmetic := by
  intro s r x y ci op hx hy packed ha hv hop
  have hadd {k : Bool} (hk : ci = k.toNat) := add8_adjusts (ci := k) hx hy hk ha hv
  have hsub {k : Bool} (hk : ci = k.toNat) := sub8_adjusts (ci := k) hx hy hk ha hv
  obtain ⟨rfl | rfl, hci⟩ | ⟨rfl | rfl, hci⟩ := hop
  · have hadjusts := hadd (k := false) hci
    obtain ⟨t, u, ht, hu, hresult⟩ := exec_alu_daa (s := s) (op := .add) (r := r) rfl hadjusts
    exact ⟨t, u, ht, hu, fun _ => hresult, by simp⟩
  · have hadjusts := hsub (k := false) hci
    obtain ⟨t, u, ht, hu, hresult⟩ := exec_alu_daa (s := s) (op := .sub) (r := r) rfl hadjusts
    exact ⟨t, u, ht, hu, by simp, fun _ => hresult⟩
  · have hadjusts := hadd (k := s.flagC) hci
    obtain ⟨t, u, ht, hu, hresult⟩ := exec_alu_daa (s := s) (op := .adc) (r := r) rfl hadjusts
    exact ⟨t, u, ht, hu, fun _ => hresult, by simp⟩
  · have hadjusts := hsub (k := s.flagC) hci
    obtain ⟨t, u, ht, hu, hresult⟩ := exec_alu_daa (s := s) (op := .sbc) (r := r) rfl hadjusts
    exact ⟨t, u, ht, hu, by simp, fun _ => hresult⟩

end Sys2Proof.Machine
end

section
/-! PROOFS. The build (70_reset_and_hazards R391 to R393, R400; 20_memory R110 to R114, R132, R133;
log 19, log 20, log 24): its tests in their order, the launch states, the RAM that is dumped and loaded. -/

namespace Sys2Proof.Machine

/-! ### The header's tables -/

section tables
variable {p : Params} {t m : Byte} {v : Variant} {n : Nat}

theorem mem_typeRows_fixed (k : Nat) : (k, Variant.fixed) ∈ typeRows ↔ k = 0 ∨ k = 8 ∨ k = 9 := by
  simp [typeRows]

theorem mem_typeRows_familyA (k : Nat) : (k, Variant.familyA) ∈ typeRows ↔ 1 ≤ k ∧ k ≤ 3 := by
  simp [typeRows]
  omega

theorem mem_typeRows_familyB (k : Nat) :
    (k, Variant.familyB) ∈ typeRows ↔ 0x0F ≤ k ∧ k ≤ 0x13 := by
  simp [typeRows]
  omega

theorem mem_typeRows_familyC (k : Nat) :
    (k, Variant.familyC) ∈ typeRows ↔ 0x19 ≤ k ∧ k ≤ 0x1E := by
  simp [typeRows]
  omega

theorem mem_typeRows_mbc2 (k : Nat) : (k, Variant.mbc2) ∈ typeRows ↔ k = 5 ∨ k = 6 := by
  simp [typeRows]

/-- The variant of a type byte, as ranges of its value (20_memory R112). -/
theorem typeNames_iff : TypeNames p t v ↔ match v with
    | .fixed => t.toNat = 0 ∨ t.toNat = 8 ∨ t.toNat = 9
    | .familyA => 1 ≤ t.toNat ∧ t.toNat ≤ 3
    | .familyB => 0x0F ≤ t.toNat ∧ t.toNat ≤ 0x13
    | .familyC => 0x19 ≤ t.toNat ∧ t.toNat ≤ 0x1E
    | .mbc2 => (t.toNat = 5 ∨ t.toNat = 6) ∧ p.mbc2Enabled = true := by
  cases v <;>
    simp [TypeNames, mem_typeRows_fixed, mem_typeRows_familyA, mem_typeRows_familyB,
      mem_typeRows_familyC, mem_typeRows_mbc2]

/-- The factory answers a variant of the table. -/
theorem typeNames_of_factory (h : factory p.mbc2Enabled t = .ok v) : TypeNames p t v := by
  unfold factory at h
  simp only at h
  split at h
  next ht => cases h; exact typeNames_iff.mpr ht
  next =>
    split at h
    next ht => cases h; exact typeNames_iff.mpr ht
    next =>
      split at h
      next ht => cases h; exact typeNames_iff.mpr ht
      next =>
        split at h
        next ht => cases h; exact typeNames_iff.mpr ht
        next =>
          split at h
          next ht => cases h; exact typeNames_iff.mpr ht
          next => cases h

/-- The factory answers every type byte of the table (20_memory R112). -/
theorem factory_of_typeNames (h : TypeNames p t v) : factory p.mbc2Enabled t = .ok v := by
  rw [typeNames_iff] at h
  unfold factory
  simp only
  cases v with
  | fixed => rw [if_pos h]
  | familyA => rw [if_neg (by omega), if_pos h]
  | mbc2 => rw [if_neg (by omega), if_neg (by omega), if_pos h]
  | familyB => rw [if_neg (by omega), if_neg (by omega), if_neg (by omega), if_pos h]
  | familyC =>
    rw [if_neg (by omega), if_neg (by omega), if_neg (by omega), if_neg (by omega), if_pos h]

/-- The factory answers no other type byte (20_memory R112, 60_exceptions R365). -/
theorem factory_of_not_typeNames (h : ∀ v, ¬TypeNames p t v) :
    factory p.mbc2Enabled t = .error (.unknownCartridgeType t) := by
  cases hf : factory p.mbc2Enabled t with
  | ok v => exact absurd (typeNames_of_factory hf) (h v)
  | error k =>
    unfold factory at hf
    simp only at hf
    split_ifs at hf
    exact hf.symm

/-- The type bytes outside the table (20_memory R112). -/
theorem not_typeNames (h : t.toNat ∈ [0x04, 0x07, 0x0A, 0x0B, 0x0C, 0x0D, 0x0E, 0x14, 0x15, 0x16,
      0x17, 0x18] ∨ 0x1E < t.toNat ∨ ((t.toNat = 0x05 ∨ t.toNat = 0x06) ∧ p.mbc2Enabled = false))
    (v : Variant) : ¬TypeNames p t v := by
  rw [typeNames_iff]
  simp only [List.mem_cons, List.not_mem_nil, or_false] at h
  cases v with
  | fixed | familyA | familyB | familyC => simp only; omega
  | mbc2 =>
    rintro ⟨ht, hon⟩
    rw [hon] at h
    simp only [Bool.true_eq_false, and_false, or_false] at h
    omega

theorem romBanksOf_some (h : m.toNat ≤ 8) : romBanksOf m = some (2 * 2 ^ m.toNat) := if_pos h

theorem romBanksOf_none (h : 8 < m.toNat) : romBanksOf m = none := if_neg (Nat.not_le.mpr h)

/-- The RAM sizes, row by row (20_memory R114). -/
theorem ramLenOf_of_row (h : (m.toNat, n) ∈ ramSizeRows) : ramLenOf m = some n := by
  simp only [ramSizeRows, List.mem_cons, Prod.mk.injEq, List.not_mem_nil, or_false] at h
  unfold ramLenOf
  obtain ⟨hm, rfl⟩ | ⟨hm, rfl⟩ | ⟨hm, rfl⟩ | ⟨hm, rfl⟩ | ⟨hm, rfl⟩ | ⟨hm, rfl⟩ := h <;>
    simp only [hm]

theorem ramLenOf_none (h : 5 < m.toNat) : ramLenOf m = none := by
  unfold ramLenOf
  split
  case h_7 => rfl
  all_goals omega

/-- The RAM size by the variant and the header (20_memory R114, R126). -/
def ramSizeOf (v : Variant) (m : Byte) : Option Nat := if v = .mbc2 then some 512 else ramLenOf m

theorem ramSizeOf_some (h : if v = .mbc2 then n = 512 else (m.toNat, n) ∈ ramSizeRows) :
    ramSizeOf v m = some n := by
  unfold ramSizeOf
  split
  next hv => rw [if_pos hv] at h; rw [h]
  next hv => rw [if_neg hv] at h; exact ramLenOf_of_row h

theorem ramSizeOf_none (hv : v ≠ .mbc2) (h : 5 < m.toNat) : ramSizeOf v m = none :=
  (if_neg hv).trans (ramLenOf_none h)

end tables

/-! ### The tests of the build, in their order (70_reset_and_hazards R400; log 19) -/

section build
variable {x : BuildInput} {v : Variant} {n banks : Nat} {k : Fatal} {c : Cart} {ram : Memory}

theorem build_of_error (h : buildCart x.params x.rom x.ramInit = .error k) : build x = .error k := by
  rw [build, h]

/-- The machine that `build` answers with the cartridge `c` (70_reset_and_hazards R400 steps 7, 8). -/
def BuildInput.machine (x : BuildInput) (c : Cart) : State :=
  { State.reset with
    regs := launchRegs x.launch x.params.revision
    cart := c
    bootRom := x.bootRom.map fun img => { img with cells := img.array }
    bootOverlay := x.bootRom.isSome && x.launch == .cold
    map := x.map
    slots := builtSlots x.bootRom.isSome
    params := x.params
    inputs := x.inputs }

theorem build_of_cart (h : buildCart x.params x.rom x.ramInit = .ok c) :
    build x = .ok (x.machine c) := by
  rw [build, h]
  rfl

theorem build_short (h : x.rom.len < 0x8000) :
    build x = .error (.malformedCartridge .imageTooShort) :=
  build_of_error (if_pos (.inr h))

/-- Of the two lengths tested the second decides. -/
theorem not_short {n : Nat} (h : 0x8000 ≤ n) : ¬(n < 0x0150 ∨ n < 0x8000) := by omega

section long
variable (hlong : 0x8000 ≤ x.rom.len)
include hlong

theorem build_unknownType (ht : ∀ v, ¬TypeNames x.params (x.rom.array.read 0x0147) v) :
    build x = .error (.unknownCartridgeType (x.rom.array.read 0x0147)) := by
  refine build_of_error ?_
  rw [buildCart]
  simp only [if_neg (not_short hlong),
    factory_of_not_typeNames ht]

variable (ht : TypeNames x.params (x.rom.array.read 0x0147) v)
include ht

theorem build_romSizeCode (hb : romBanksOf (x.rom.array.read 0x0148) = none) :
    build x = .error (.malformedCartridge (.romSizeCode (x.rom.array.read 0x0148))) := by
  refine build_of_error ?_
  rw [buildCart]
  simp only [if_neg (not_short hlong),
    factory_of_typeNames ht, hb]

variable (hb : romBanksOf (x.rom.array.read 0x0148) = some banks)
include hb

theorem build_imageLength (hl : x.rom.len ≠ banks * 0x4000) :
    build x = .error (.malformedCartridge .imageLength) := by
  refine build_of_error ?_
  rw [buildCart]
  simp only [if_neg (not_short hlong),
    factory_of_typeNames ht, hb, if_pos hl]

variable (hl : x.rom.len = banks * 0x4000)
include hl

theorem build_ramSizeCode (hr : ramSizeOf v (x.rom.array.read 0x0149) = none) :
    build x = .error (.malformedCartridge (.ramSizeCode (x.rom.array.read 0x0149))) := by
  refine build_of_error ?_
  rw [ramSizeOf] at hr
  rw [buildCart]
  simp only [if_neg (not_short hlong),
    factory_of_typeNames ht, hb, if_neg (not_not.mpr hl), hr]

variable (hr : ramSizeOf v (x.rom.array.read 0x0149) = some n)
include hr

theorem build_ramInit (hram : loadRam v n x.ramInit = .error k) : build x = .error k := by
  refine build_of_error ?_
  rw [ramSizeOf] at hr
  rw [buildCart]
  simp only [if_neg (not_short hlong),
    factory_of_typeNames ht, hb, if_neg (not_not.mpr hl), hr, hram]

theorem build_complete (hram : loadRam v n x.ramInit = .ok ram) :
    build x = .ok (x.machine ⟨x.rom.array, banks, n, v.reset, ram⟩) := by
  refine build_of_cart ?_
  rw [ramSizeOf] at hr
  rw [buildCart]
  simp only [if_neg (not_short hlong),
    factory_of_typeNames ht, hb, if_neg (not_not.mpr hl), hr, hram]

end long

theorem Variant.reset_variant (v : Variant) : v.reset.variant = v := by cases v <;> rfl

theorem loadRam_of_len {img : Image} (h : img.len = n) :
    loadRam v n (some img) = .ok (v.keeps img.array) := if_pos h

theorem loadRam_of_ne {img : Image} (h : img.len ≠ n) :
    loadRam v n (some img) = .error (.malformedCartridge .ramInitLength) := if_neg h

/-- Bytes of the right length, or none, seed the RAM (20_memory R133). -/
theorem loadRam_ok {init : Option Image} (h : ∀ img, init = some img → img.len = n) :
    ∃ ram, loadRam v n init = .ok ram := by
  cases init with
  | none => exact ⟨_, rfl⟩
  | some img => exact ⟨_, loadRam_of_len (h img rfl)⟩

/-- Settles O3: the tests of the build one after another. -/
theorem buildChecksTheImage : Obligations.BuildChecksTheImage := by
  rintro x t r m rfl rfl rfl
  refine ⟨build_short, build_unknownType, fun h v => not_typeNames ?_ v, fun v hlong ht =>
    ⟨fun hr => build_romSizeCode hlong ht (romBanksOf_none hr),
      fun hr hlen => build_imageLength hlong ht (romBanksOf_some hr) hlen, fun hr hlen =>
        ⟨fun hv hm => build_ramSizeCode hlong ht (romBanksOf_some hr) hlen (ramSizeOf_none hv hm),
          fun n hn => ⟨fun img himg hne => ?_, fun hinit => ?_⟩⟩⟩⟩
  · rwa [List.contains_iff_mem] at h
  · exact build_ramInit hlong ht (romBanksOf_some hr) hlen (ramSizeOf_some hn)
      (himg ▸ loadRam_of_ne hne)
  · obtain ⟨ram, hram⟩ := loadRam_ok (v := v) hinit
    refine ⟨_, build_complete hlong ht (romBanksOf_some hr) hlen (ramSizeOf_some hn) hram, rfl,
      v.reset_variant, rfl, rfl, fun d => ?_, rfl, rfl⟩
    exact (mem_builtSlots _ d).trans (or_congr_right Option.isSome_iff_ne_none)

/-! ### The launch states -/

/-- The cartridge of a build has its controller at reset, and the RAM that was loaded. -/
theorem buildCart_ok {p : Params} {rom : Image} {init : Option Image}
    (h : buildCart p rom init = .ok c) :
    ∃ v, c.mbc = Variant.reset v ∧ loadRam v c.ramLen init = .ok c.ram := by
  unfold buildCart at h
  simp only at h
  split at h
  · cases h
  · split at h
    · cases h
    next v _ =>
      split at h
      · cases h
      · split at h
        · cases h
        · split at h
          · cases h
          · split at h
            · cases h
            next ram hram => cases h; exact ⟨v, rfl, hram⟩

theorem machine_of_build {s : State} (h : build x = .ok s) :
    s = x.machine s.cart ∧ ∃ v, s.cart.mbc = Variant.reset v ∧
      loadRam v s.cart.ramLen x.ramInit = .ok s.cart.ram := by
  cases hc : buildCart x.params x.rom x.ramInit with
  | error k => cases (build_of_error hc).symm.trans h
  | ok c =>
    cases (build_of_cart hc).symm.trans h
    exact ⟨rfl, buildCart_ok hc⟩

end build

/-! ### The RAM, dumped and loaded -/

/-- A variant keeps of each byte what its cells hold (20_memory R126; log 20). -/
theorem Variant.read_keeps (v : Variant) (m : Memory) (k : Nat) : (v.keeps m).read k =
    if v = .mbc2 then m.read k &&& 0x0F#8 else m.read k := by
  cases v with
  | mbc2 =>
    have hzero : (0#8 : Byte) &&& 0x0F#8 = 0#8 := by decide
    exact (Memory.read_ofCells _ k).trans (Memory.read_map (· &&& 0x0F#8) hzero m k)
  | fixed | familyA | familyB | familyC => rfl

theorem Variant.wf_keeps (v : Variant) {m : Memory} (h : m.wf = true) : (v.keeps m).wf = true := by
  cases v with
  | mbc2 => exact Memory.wf_ofCells _
  | fixed | familyA | familyB | familyC => exact h

theorem Image.wf_array (img : Image) : img.array.wf = true := Memory.wf_ofCells _

theorem Image.read_array (img : Image) (k : Nat) :
    img.array.read k = if k < img.len then img.cells.read k else 0#8 :=
  (Memory.read_ofCells _ k).trans (Memory.read_filter img.len img.cells k)

theorem Memory.read_of_all {m : Memory} {q : Byte → Bool} (h : (m.all fun c => q c.2) = true)
    (h0 : q 0#8 = true) (k : Nat) : q (m.read k) = true := by
  induction m with
  | nil => exact h0
  | cons c m ih =>
    obtain ⟨i, v⟩ := c
    simp only [List.all_cons, Bool.and_eq_true] at h
    simp only [Memory.read]
    split
    · exact h.1
    · exact ih h.2

theorem length_dumpRam (s : State) : (dumpRam s).length = s.cart.ramLen := by
  rw [dumpRam, List.length_map, List.length_range]

/-- The image made of a dump reads as the RAM (20_memory R132). -/
theorem read_dumpImage (s : State) (h : s.cart.ram.below s.cart.ramLen = true) (k : Nat) :
    (Image.mk (dumpRam s).length (Memory.ofBytes 0 (dumpRam s))).array.read k =
      s.cart.ram.read k := by
  rw [Image.read_array, Memory.read_ofBytes, length_dumpRam]
  by_cases hk : k < s.cart.ramLen
  · rw [if_pos hk, if_neg (Nat.not_lt_zero k), Nat.sub_zero, dumpRam, List.getElem?_map,
      List.getElem?_range hk]
    rfl
  · rw [if_neg hk, Memory.read_beyond h (Nat.not_lt.mp hk)]

/-- The cells of an MBC2 hold four bits already (20_memory R126). -/
theorem and_low_of_lt {b : Byte} (h : b.toNat < 16) : b &&& 0x0F#8 = b := by
  refine BitVec.eq_of_toNat_eq ?_
  rw [and_0x0F_toNat, Nat.mod_eq_of_lt h]

/-- Loading what is dumped gives the same RAM (20_memory R132, R133). -/
theorem loadRam_dumpRam (s : State) (h : s.cart.inv = true) :
    loadRam s.cart.mbc.variant s.cart.ramLen
      (some ⟨(dumpRam s).length, Memory.ofBytes 0 (dumpRam s)⟩) = .ok s.cart.ram := by
  simp only [Cart.inv, Bool.and_eq_true, Bool.or_eq_true] at h
  obtain ⟨⟨⟨-, hwf⟩, hbelow⟩, hcells⟩ := h
  rw [loadRam_of_len (length_dumpRam s)]
  refine congrArg Except.ok (Memory.ext_of_wf (Variant.wf_keeps _ (Image.wf_array _)) hwf fun k => ?_)
  rw [Variant.read_keeps, read_dumpImage s hbelow]
  split
  next hv =>
    have hmbc2 : s.cart.mbc.isMbc2 = true := s.cart.mbc.isMbc2_iff.mpr hv
    simp only [hmbc2, Bool.not_true, Bool.false_eq_true, false_or] at hcells
    exact and_low_of_lt (of_decide_eq_true
      (Memory.read_of_all (q := fun b => decide (b.toNat < 16)) hcells.2 (by decide) k))
  next => rfl

/-- What is dumped of a machine just built (20_memory R132, R133). -/
theorem dumpRam_of_loaded {s : State} {v : Variant} {init : Option Image}
    (hv : s.cart.mbc = v.reset) (h : loadRam v s.cart.ramLen init = .ok s.cart.ram) :
    (init = none → dumpRam s = List.replicate s.cart.ramLen 0#8) ∧
      ∀ img, init = some img → img.len = s.cart.ramLen ∧
        dumpRam s = (List.range img.len).map fun k =>
          if s.cart.mbc.isMbc2 then img.array.read k &&& 0x0F#8 else img.array.read k := by
  refine ⟨fun hinit => ?_, fun img hinit => ?_⟩
  · subst hinit
    have hram : s.cart.ram = [] := (Except.ok.inj h).symm
    have hzero : Memory.read [] = fun _ => 0#8 := rfl
    rw [dumpRam, hram, hzero, List.map_const', List.length_range]
  · subst hinit
    by_cases hlen : img.len = s.cart.ramLen
    · rw [loadRam_of_len hlen] at h
      have hkind : s.cart.mbc.isMbc2 = true ↔ v = .mbc2 := by
        rw [Mbc.isMbc2_iff, hv, Variant.reset_variant]
      refine ⟨hlen, ?_⟩
      rw [dumpRam, hlen, ← Except.ok.inj h]
      exact List.map_congr_left fun k _ => by simp only [Variant.read_keeps, hkind]
    · cases (loadRam_of_ne hlen).symm.trans h

/-! ### The launch states -/

/-- Settles O2: the fields of the machine of a build, and its RAM. -/
theorem launchStates : Obligations.LaunchStates := by
  refine ⟨fun x s h => ?_, loadRam_dumpRam⟩
  obtain ⟨hs, v, hv, hram⟩ := machine_of_build h
  obtain ⟨hnone, hsome⟩ := dumpRam_of_loaded hv hram
  have hregs : s.regs = launchRegs x.launch x.params.revision := congrArg State.regs hs
  have hoverlay : s.bootOverlay = (x.bootRom.isSome && x.launch == .cold) :=
    congrArg State.bootOverlay hs
  have hreset : s.cart.mbc = .fixed ∨ s.cart.mbc = .familyA false 0#5 0#2 0#1 ∨
      s.cart.mbc = .familyB false 0#7 0#8 ∨ s.cart.mbc = .familyC false 1#8 0#1 0#4 ∨
      s.cart.mbc = .mbc2 false 0#4 := by
    rw [hv]
    cases v <;> simp [Variant.reset]
  have hwram : s.wram = [] := congrArg State.wram hs
  have hhram : s.hram = [] := congrArg State.hram hs
  refine ⟨fun hl => ?_, fun hl => ?_, congrArg State.ime hs, congrArg State.imeSched hs,
    congrArg State.halted hs, congrArg State.stopped hs, congrArg State.fatal hs,
    congrArg State.intEnable hs, congrArg State.intRequest hs, hreset,
    fun k => ⟨by rw [hwram]; rfl, by rw [hhram]; rfl⟩, hnone, hsome⟩
  · rw [hl] at hregs hoverlay
    have hf : s.regs.f = 0#8 := congrArg RegFile.f hregs
    simp only [State.flagZ, State.flagN, State.flagH, State.flagC, hf]
    refine ⟨hregs, by decide, by decide, by decide, by decide, ?_⟩
    rw [hoverlay, ← Option.isSome_iff_ne_none]
    exact iff_of_eq (congrArg (· = true) (Bool.and_true _))
  · rw [hl] at hregs hoverlay
    refine ⟨hoverlay.trans (Bool.and_false _), hregs.trans ?_⟩
    cases x.params.revision <;> rfl

/-! ### Reset -/

/-- Settles O1: the blank image passes every test, and its machine is the one spelled out. -/
theorem resetIsBuildOfBlankImage : Obligations.ResetIsBuildOfBlankImage :=
  ⟨rfl, rfl, rfl, rfl, rfl, rfl, rfl, rfl, rfl, rfl⟩

/-- Settles O45: the memory of reset is canonical, its map the default one, and every slot filled. -/
theorem invariantHoldsAtReset : Obligations.InvariantHoldsAtReset := by
  refine ⟨?_, ?_⟩
  · decide
  · decide

end Sys2Proof.Machine
end
